-- ==== Sys2Proof/Word.lean ====
section
/-! DEFINITION. The words of the Feistel Cipher Engine (00_scope.md R5, R10): unsigned bit vectors of fixed width,
bit 0 the least significant. -/

namespace Sys2Proof

/-- A byte of a host buffer (20_memory.md R65). -/
abbrev Byte := BitVec 8

/-- A 32-bit interface register, or the value of one host access (10_state.md R30, 20_memory.md R63). -/
abbrev Word := BitVec 32

/-- A block, or the key word: 64 bits (00_scope.md R5, R14). -/
abbrev Block := BitVec 64

/-- A half-block, 32 bits (00_scope.md R5, R14). -/
abbrev HalfBlock := BitVec 32

/-- A round key, 48 bits (00_scope.md R5, R14). -/
abbrev RoundKey := BitVec 48

/-- A key-schedule half, 28 bits (00_scope.md R5). -/
abbrev KeyHalf := BitVec 28

/-- The round-key file RK[0..15] (10_state.md R40). -/
abbrev KeyFile := Vector RoundKey 16

end Sys2Proof
end

