-- ==== Sys2Proof/Config.lean ====
section
/-! DEFINITION. What is fixed when an engine is built (00_scope.md R6, R9; 10_state.md R50): the byte order, the key
size, the table set and the base address. The values of this hardware's tables are in Machine/Tables.lean. -/

namespace Sys2Proof

/-- `BYTE_ORDER` (00_scope.md R6): `le` or `be`, no other value is legal. -/
inductive ByteOrder where
  /-- The first byte of a buffer is the least significant byte of the word. -/
  | le
  /-- The first byte of a buffer is the most significant byte of the word. -/
  | be
  deriving DecidableEq, Repr

/-- The table set `TABLES` (00_scope.md R6, R8). A permutation table lists positions: its i-th entry is `T[i]` of
00_scope.md R11, position 1 being the most significant bit. An S-box is a 64-entry array indexed by the group
(43_feistel_function.md R184). -/
structure Tables where
  /-- IP, the initial permutation, 64 to 64 bits. -/
  ip : List Nat
  /-- FP, the final permutation, 64 to 64 bits. -/
  fp : List Nat
  /-- E, the expansion, 32 to 48 bits. -/
  e : List Nat
  /-- P, the permutation of the Feistel function, 32 to 32 bits. -/
  p : List Nat
  /-- PC1, 64 to 56 bits. -/
  pc1 : List Nat
  /-- PC2, 56 to 48 bits. -/
  pc2 : List Nat
  /-- SHIFT, the sixteen rotation counts. -/
  shift : List Nat
  /-- S1 to S8; box j is at index j - 1. -/
  sboxes : Vector (List Nat) 8
  deriving DecidableEq, Repr

/-- The configuration of one engine (10_state.md R50). `STEP_DELAY` is absent: a model represents no time
(70_reset_and_hazards.md R289; log 14). -/
structure Config where
  /-- `BYTE_ORDER`. -/
  byteOrder : ByteOrder
  /-- `KEY_BYTES`, the key size KEYSET accepts. -/
  keyBytes : Nat
  /-- `TABLES`. -/
  tables : Tables
  /-- `BASE`, the platform address of the register window. -/
  base : Nat
  deriving DecidableEq, Repr

/-- Where the platform maps the window, in units of 32 bytes (20_memory.md R60: `BASE` is a multiple of 32). `BASE` is
an open parameter (00_scope.md R6), so this constant has no body and no proof can see its value (log 5). -/
opaque Config.windowIndex : Nat

end Sys2Proof
end

