-- ==== Sys2Proof/Syntax.lean ====
section
/-! DEFINITION. The commands of the engine: one constructor for each row of spec/opcode_table.json
(30_encoding.md R92). -/

namespace Sys2Proof

/-- A command word whose RSVD field is 0 and whose OPCODE is one of the five of 30_encoding.md R92, with the two length
fields it carries (R90, R91). The data operands are not in the word: they are the DIN or KEY registers. A length field
is eight bits and ranges over 0..255, so every term of this type has exactly one command word (log 12). -/
inductive Instr where
  /-- KEYSET (42_round_key_schedule.md R158): derive the round keys; `outLen` is ignored. -/
  | keyset (inLen outLen : Byte)
  /-- ENCRYPT (44_block_transform.md R218). -/
  | encrypt (inLen outLen : Byte)
  /-- DECRYPT (44_block_transform.md R219). -/
  | decrypt (inLen outLen : Byte)
  /-- PERM_IP (41_bit_permutation.md R127). -/
  | permIp (inLen outLen : Byte)
  /-- PERM_FP (41_bit_permutation.md R128). -/
  | permFp (inLen outLen : Byte)
  deriving DecidableEq, Repr

end Sys2Proof
end

