-- ==== Sys2Proof/WellFormed.lean ====
section
/-! DEFINITION. What is checked of the data the model is given: a command word (30_encoding.md R94), a table set
(41_bit_permutation.md R122, 42_round_key_schedule.md R153, 43_feistel_function.md R184) and a configuration
(20_memory.md R60). A term of `Instr` needs no check of its own: its two fields are 8-bit (Syntax.lean). -/

namespace Sys2Proof

/-- A command word is defined exactly when RSVD is 0 and OPCODE is one of 0x01 to 0x05 (30_encoding.md R94). -/
def wordWellFormed (v : Word) : Bool :=
  v.extractLsb' 8 8 == 0#8 && [0x01#8, 0x02#8, 0x03#8, 0x04#8, 0x05#8].contains (v.extractLsb' 0 8)

/-- A table of `permute(T, n, v)` with m output bits: exactly m entries, each in 1..n (41_bit_permutation.md R122). -/
def tableWellFormed (n m : Nat) (t : List Nat) : Bool :=
  t.length == m && t.all fun p => decide (1 ≤ p ∧ p ≤ n)

/-- An S-box: 64 entries, each in 0..15 (43_feistel_function.md R184). -/
def sboxWellFormed (box : List Nat) : Bool :=
  box.length == 64 && box.all fun v => decide (v ≤ 15)

/-- The rotation schedule: sixteen entries, each 1 or 2 (42_round_key_schedule.md R153). -/
def shiftWellFormed (t : List Nat) : Bool :=
  t.length == 16 && t.all fun s => s == 1 || s == 2

/-- A well-formed table set, by the widths of 41_bit_permutation.md R121. -/
def Tables.wellFormed (t : Tables) : Bool :=
  tableWellFormed 64 64 t.ip && tableWellFormed 64 64 t.fp && tableWellFormed 32 48 t.e &&
    tableWellFormed 32 32 t.p && tableWellFormed 64 56 t.pc1 && tableWellFormed 56 48 t.pc2 &&
    shiftWellFormed t.shift && t.sboxes.toList.all sboxWellFormed

/-- A well-formed configuration: its tables are, and `BASE` is a multiple of 32 (20_memory.md R60). -/
def Config.wellFormed (cfg : Config) : Bool :=
  cfg.tables.wellFormed && cfg.base % 32 == 0

/-- A table of positions 1..n is a bijection when it lists each of them exactly once. A correct cipher needs this of
IP, FP and P; the unit does not check it (41_bit_permutation.md R123). -/
def tableBijective (n : Nat) (t : List Nat) : Bool :=
  t.length == n && (List.range n).all fun i => t.contains (i + 1)

end Sys2Proof
end

