-- ==== Sys2Proof/Decode.lean ====
section
/-! DEFINITION. The command word (30_encoding.md R90 to R94): its fields, the decoder, and the encoder. Every command is
exactly one 32-bit word, so the decoder's input is the word written to CMD; it reads `v[15:0]` to select the command
and refuses every other word, which the engine then rejects with IllegalCommand (R93, R95). -/

namespace Sys2Proof

/-- OPCODE, `v[7:0]` (30_encoding.md R91). -/
def opcodeField (v : Word) : Byte := v.extractLsb' 0 8

/-- RSVD, `v[15:8]` (30_encoding.md R91). -/
def rsvdField (v : Word) : Byte := v.extractLsb' 8 8

/-- IN_LEN, `v[23:16]` (30_encoding.md R91). -/
def inLenField (v : Word) : Byte := v.extractLsb' 16 8

/-- OUT_LEN, `v[31:24]` (30_encoding.md R91). -/
def outLenField (v : Word) : Byte := v.extractLsb' 24 8

/-- The opcode of KEYSET (30_encoding.md R92). -/
def opKeyset : Byte := 0x01#8

/-- The opcode of ENCRYPT (30_encoding.md R92). -/
def opEncrypt : Byte := 0x02#8

/-- The opcode of DECRYPT (30_encoding.md R92). -/
def opDecrypt : Byte := 0x03#8

/-- The opcode of PERM_IP (30_encoding.md R92). -/
def opPermIp : Byte := 0x04#8

/-- The opcode of PERM_FP (30_encoding.md R92). -/
def opPermFp : Byte := 0x05#8

/-- The command an opcode selects, with its two length fields; `none` for every opcode outside 0x01 to 0x05
(30_encoding.md R92, R93). -/
def decodeOpcode (op inLen outLen : Byte) : Option Instr :=
  if op = opKeyset then some (.keyset inLen outLen)
  else if op = opEncrypt then some (.encrypt inLen outLen)
  else if op = opDecrypt then some (.decrypt inLen outLen)
  else if op = opPermIp then some (.permIp inLen outLen)
  else if op = opPermFp then some (.permFp inLen outLen)
  else none

/-- The decoder (30_encoding.md R94): defined exactly when RSVD is 0 and OPCODE is one of the five. -/
def decode (v : Word) : Option Instr :=
  if rsvdField v = 0#8 then decodeOpcode (opcodeField v) (inLenField v) (outLenField v) else none

/-- The OPCODE field of a command (30_encoding.md R92). -/
def Instr.opcode : Instr → Byte
  | .keyset _ _ => opKeyset
  | .encrypt _ _ => opEncrypt
  | .decrypt _ _ => opDecrypt
  | .permIp _ _ => opPermIp
  | .permFp _ _ => opPermFp

/-- The IN_LEN field of a command (30_encoding.md R90). -/
def Instr.inLen : Instr → Byte
  | .keyset n _ => n
  | .encrypt n _ => n
  | .decrypt n _ => n
  | .permIp n _ => n
  | .permFp n _ => n

/-- The OUT_LEN field of a command (30_encoding.md R90). -/
def Instr.outLen : Instr → Byte
  | .keyset _ m => m
  | .encrypt _ m => m
  | .decrypt _ m => m
  | .permIp _ m => m
  | .permFp _ m => m

/-- The command word with RSVD 0 (30_encoding.md R90): OUT_LEN, IN_LEN, RSVD, OPCODE from bit 31 down. -/
def commandWord (op inLen outLen : Byte) : Word := outLen ++ inLen ++ (0x00#8) ++ op

/-- The encoder: the one word of a command. -/
def encode (i : Instr) : Word := commandWord i.opcode i.inLen i.outLen

/-- The decoder on a word of spec/opcode_table.json, whose bit 0 is the word's least significant bit. A command is one
32-bit word (30_encoding.md R94) that reaches the engine as the value of a bus write, not as bytes in a memory, so the
bits are the word itself; bits above `nbits` are 0, and a number that needs more than 32 bits is no command word. -/
def decodeTableWord (nbits w : Nat) : Option Instr :=
  if w % 2 ^ nbits < 2 ^ 32 then decode (BitVec.ofNat 32 (w % 2 ^ nbits)) else none

end Sys2Proof
end

