-- ==== Sys2Proof/Machine/State.lean ====
section
/-! DEFINITION. The state of the machine (10_state.md R30, R52): the engine's registers, and beside them the model's
own two fields, the pending events and the last bus reply, by which the world outside the engine acts on it
(20_memory.md R71). -/

namespace Sys2Proof.Machine

open Sys2Proof

/-- PHASE, the state of the iteration controller (10_state.md R48). -/
inductive Phase where
  /-- No command is executing. -/
  | idle
  /-- The first step of KEYSET, ENCRYPT or DECRYPT is next. -/
  | init
  /-- A round of KEYSET, ENCRYPT or DECRYPT is next. -/
  | round
  /-- The last step of KEYSET, ENCRYPT or DECRYPT is next. -/
  | final
  /-- The one step of PERM_IP or PERM_FP is next. -/
  | perm
  deriving DecidableEq, Repr

/-- STATUS, by its fields (10_state.md R34). Bits 31:8 are reserved and read as 0: they have no storage (log 11). -/
structure Status where
  /-- Bit 0: a command is executing (R35). -/
  busy : Bool
  /-- Bit 1: the last accepted command has finished (R36). -/
  done : Bool
  /-- Bit 2: RK holds a complete schedule (R37). -/
  keyValid : Bool
  /-- Bit 3: a CMD write was dropped since the last accepted one (R38). -/
  overrun : Bool
  /-- Bits 7:4: the result code of the last accepted command (R39). -/
  err : BitVec 4
  deriving DecidableEq, Repr

/-- The conditions a command is rejected for (60_exceptions.md R250). -/
inductive ErrorCode where
  /-- Code 1: IN_LEN of a block command is not 8. -/
  | invalidArgumentInput
  /-- Code 2: OUT_LEN of a block command is not 8. -/
  | invalidArgumentOutput
  /-- Code 3: IN_LEN of KEYSET is not `KEY_BYTES`. -/
  | invalidKeyLength
  /-- Code 4: ENCRYPT or DECRYPT while KEY_VALID is 0. -/
  | noKey
  /-- Code 5: RSVD is not 0, or OPCODE is not one of the five. -/
  | illegalCommand
  deriving DecidableEq, Repr

/-- The registers of the engine, exactly those of 10_state.md R30. -/
structure Engine where
  /-- CMD (R33). -/
  cmd : Word
  /-- STATUS (R34). -/
  status : Status
  /-- DIN0, input bytes 0 to 3 (R41). -/
  din0 : Word
  /-- DIN1, input bytes 4 to 7 (R41). -/
  din1 : Word
  /-- KEY0, key bytes 0 to 3 (R42). -/
  key0 : Word
  /-- KEY1, key bytes 4 to 7 (R42). -/
  key1 : Word
  /-- DOUT0, output bytes 0 to 3 (R43). -/
  dout0 : Word
  /-- DOUT1, output bytes 4 to 7 (R43). -/
  dout1 : Word
  /-- RK[0..15], the round-key file (R40). -/
  rk : KeyFile
  /-- X, the operand latch (R44). -/
  x : Block
  /-- L, the left half-block (R45). -/
  l : HalfBlock
  /-- R, the right half-block (R45). -/
  r : HalfBlock
  /-- C, the high key-schedule half (R46). -/
  c : KeyHalf
  /-- D, the low key-schedule half (R46). -/
  d : KeyHalf
  /-- PHASE (R48). -/
  phase : Phase
  /-- RND, the round counter (R47). -/
  rnd : BitVec 5
  /-- OP, the opcode of the executing command (R49). -/
  op : Byte
  deriving DecidableEq, Repr

/-- The interface registers, by name (20_memory.md R62). -/
inductive Reg where
  | cmd
  | status
  | din0
  | din1
  | key0
  | key1
  | dout0
  | dout1
  deriving DecidableEq, Repr

/-- The access widths the engine does not serve (20_memory.md R64). -/
inductive OtherWidth where
  | bits8
  | bits16
  | bits64
  deriving DecidableEq, Repr

/-- Whether an access reads or writes. -/
inductive Direction where
  | read
  | write
  deriving DecidableEq, Repr

/-- One host access of the register window (20_memory.md R63, R64) at a byte offset 0x00 to 0x1F. It has the same effect
whichever master makes it (60_exceptions.md R259), so it names none (log 13). -/
inductive Access where
  /-- A 32-bit read: `HostRead(off)`. -/
  | read32 (off : Fin 32)
  /-- A 32-bit write: `HostWrite(off, v)`. -/
  | write32 (off : Fin 32) (v : Word)
  /-- An access of 8, 16 or 64 bits. Its data never reaches an engine rule (R64), so it carries none (log 3). -/
  | other (dir : Direction) (width : OtherWidth) (off : Fin 32)
  deriving DecidableEq, Repr

/-- What can happen to the engine next (20_memory.md R71, 70_reset_and_hazards.md R280). -/
inductive Event where
  /-- A host access. -/
  | access (a : Access)
  /-- A turn of the iteration controller: one step if it is enabled (44_block_transform.md R211). -/
  | controller
  /-- Reset (70_reset_and_hazards.md R280). -/
  | reset
  /-- The `wait` of 30_encoding.md R97: read STATUS until BUSY is 0. After the i-th read that finds BUSY set, `gaps[i]`
  controller turns pass, and 1 once the list is used up (log 7). -/
  | wait (gaps : List Nat)
  deriving DecidableEq, Repr

/-- The bus's answer to the most recent host access (20_memory.md R63, R64). It is the model's own field (log 4). -/
inductive Reply where
  /-- No access has been answered yet. -/
  | noReply
  /-- A 32-bit write took place. -/
  | written
  /-- A 32-bit read returned this value. -/
  | data (v : Word)
  /-- A bus error to the master that made the access (20_memory.md R64). -/
  | busError
  deriving DecidableEq, Repr

/-- The machine: the engine, and the events that are yet to happen to it, oldest first. -/
structure State where
  /-- The engine's registers (10_state.md R30). -/
  engine : Engine
  /-- The pending events, oldest first (20_memory.md R71); the model's own field (log 1). -/
  events : List Event
  /-- The answer to the most recent host access; the model's own field (log 4). -/
  reply : Reply
  deriving DecidableEq, Repr

/-- Why the machine stops. Neither is reached from a state of 10_state.md R51's invariants by an event of the window. -/
inductive Fault where
  /-- Raised by `busRequest` for an absolute address outside the register window (20_memory.md R60: the engine decodes
  no such address, and what the bus does there is not the engine's behaviour). Safe: the machine stops where the
  platform would go on (log 5). -/
  | outsideWindow
  /-- Raised by `controllerTurn` in a (PHASE, OP) pair, or a ROUND with RND over 15, for which 44_block_transform.md R211
  has no row and which it calls unreachable. Safe: the machine stops (log 6). -/
  | noControllerRule
  deriving DecidableEq, Repr

/-- Why an instruction has no meaning. Every instruction of this model has one, so no step answers with it. -/
inductive Refusal where
  /-- For `exec`'s arms alone: the instruction of this mnemonic is not modelled yet. No arm uses it. Safe. -/
  | notModelled (mnemonic : String)
  deriving DecidableEq, Repr

/-- STATUS after reset: 0x00000000 (10_state.md R52). -/
def Status.reset : Status :=
  { busy := false, done := false, keyValid := false, overrun := false, err := 0#4 }

/-- Every register after reset (10_state.md R52, 70_reset_and_hazards.md R280). -/
def Engine.reset : Engine :=
  { cmd := 0#32, status := Status.reset, din0 := 0#32, din1 := 0#32, key0 := 0#32, key1 := 0#32, dout0 := 0#32,
    dout1 := 0#32, rk := Vector.replicate 16 0#48, x := 0#64, l := 0#32, r := 0#32, c := 0#28, d := 0#28,
    phase := .idle, rnd := 0#5, op := 0x00#8 }

/-- The machine right after reset (10_state.md R52): nothing pending, no access answered yet (log 1, log 4). -/
def State.reset : State :=
  { engine := Engine.reset, events := [], reply := .noReply }

end Sys2Proof.Machine
end

