-- ==== Sys2Proof/Machine/Flags.lean ====
section
/-! DEFINITION. STATUS (10_state.md R34 to R39): its layout as a 32-bit register, the codes of its ERR field, and every
change a rule makes to its flags. -/

namespace Sys2Proof.Machine

open Sys2Proof

/-- The numeric code of an error (60_exceptions.md R250). Codes 6 to 15 are never produced. -/
def ErrorCode.code : ErrorCode → BitVec 4
  | .invalidArgumentInput => 1#4
  | .invalidArgumentOutput => 2#4
  | .invalidKeyLength => 3#4
  | .noKey => 4#4
  | .illegalCommand => 5#4

/-- STATUS as a read returns it (10_state.md R34): bits 31:8 are 0, then ERR, OVERRUN, KEY_VALID, DONE, BUSY. -/
def Status.word (st : Status) : Word :=
  0#24 ++ st.err ++ BitVec.ofBool st.overrun ++ BitVec.ofBool st.keyValid ++ BitVec.ofBool st.done ++
    BitVec.ofBool st.busy

/-- A CMD write arrived while BUSY was 1: OVERRUN is set, nothing else (10_state.md R38, 60_exceptions.md R255). -/
def Status.dropped (st : Status) : Status := { st with overrun := true }

/-- A CMD write was accepted: OVERRUN is cleared, before validation (10_state.md R38, 60_exceptions.md R251). -/
def Status.accepted (st : Status) : Status := { st with overrun := false }

/-- The accepted command was rejected (60_exceptions.md R252): `ERR <- c; DONE <- 1`. -/
def Status.rejected (c : ErrorCode) (st : Status) : Status := { st with err := c.code, done := true }

/-- The accepted command passed validation (60_exceptions.md R251): `BUSY <- 1; DONE <- 0; ERR <- 0`. -/
def Status.started (st : Status) : Status := { st with busy := true, done := false, err := 0#4 }

/-- The final step of a command (10_state.md R35, R36): `BUSY <- 0; DONE <- 1`. -/
def Status.finished (st : Status) : Status := { st with busy := false, done := true }

/-- KEY_VALID becomes v (10_state.md R37). -/
def Status.setKeyValid (v : Bool) (st : Status) : Status := { st with keyValid := v }

end Sys2Proof.Machine
end

