-- ==== Sys2Proof/Machine/Operands.lean ====
section
/-! DEFINITION. The operand forms of the engine: the bit primitives of 00_scope.md R12 and 41_bit_permutation.md R121,
the byte lanes of the buffers (20_memory.md R65), the conversions between bytes and words (R66), and the checks of a
command's length fields and of the key (60_exceptions.md R250, R253). -/

namespace Sys2Proof.Machine

open Sys2Proof

/-- `permute(T, n, v)` (41_bit_permutation.md R121): output position i is input position `T[i]`, position 1 being the
most significant bit. The output is as wide as the table is long. -/
def permute {n m : Nat} (t : List Nat) (v : BitVec n) : BitVec m :=
  (BitVec.ofBoolListBE (t.map fun p => v.getMsbD (p - 1))).setWidth m

/-- `rol28(v, s)` (00_scope.md R12): a left circular rotation by s positions. -/
def rol28 (s : Nat) (v : KeyHalf) : KeyHalf := v.rotateLeft s

/-- `swap32(w)` (00_scope.md R12): the halves of a 64-bit word exchanged. -/
def swap32 (w : Block) : Block := w.extractLsb' 0 32 ++ w.extractLsb' 32 32

/-- The bytes of a buffer held in two registers, byte j in bits [8j+7:8j] of the first and byte 4+j in the same bits of
the second (20_memory.md R65), whatever the byte order. -/
def lanes (lo hi : Word) : Vector Byte 8 :=
  #v[lo.extractLsb' 0 8, lo.extractLsb' 8 8, lo.extractLsb' 16 8, lo.extractLsb' 24 8,
    hi.extractLsb' 0 8, hi.extractLsb' 8 8, hi.extractLsb' 16 8, hi.extractLsb' 24 8]

/-- The first register of a buffer, from its bytes: `o[3]‖o[2]‖o[1]‖o[0]` (20_memory.md R65). -/
def lowLanes (o : Vector Byte 8) : Word := o[3] ++ o[2] ++ o[1] ++ o[0]

/-- The second register of a buffer, from its bytes: `o[7]‖o[6]‖o[5]‖o[4]` (20_memory.md R65). -/
def highLanes (o : Vector Byte 8) : Word := o[7] ++ o[6] ++ o[5] ++ o[4]

/-- `load64(b)` (20_memory.md R66). -/
def load64 (order : ByteOrder) (b : Vector Byte 8) : Block :=
  match order with
  | .le => b[7] ++ b[6] ++ b[5] ++ b[4] ++ b[3] ++ b[2] ++ b[1] ++ b[0]
  | .be => b[0] ++ b[1] ++ b[2] ++ b[3] ++ b[4] ++ b[5] ++ b[6] ++ b[7]

/-- `store64(w)` (20_memory.md R66): LE puts `w[8j+7:8j]` in byte j, BE puts `w[63-8j:56-8j]` there. -/
def store64 (order : ByteOrder) (w : Block) : Vector Byte 8 :=
  match order with
  | .le => #v[w.extractLsb' 0 8, w.extractLsb' 8 8, w.extractLsb' 16 8, w.extractLsb' 24 8,
      w.extractLsb' 32 8, w.extractLsb' 40 8, w.extractLsb' 48 8, w.extractLsb' 56 8]
  | .be => #v[w.extractLsb' 56 8, w.extractLsb' 48 8, w.extractLsb' 40 8, w.extractLsb' 32 8,
      w.extractLsb' 24 8, w.extractLsb' 16 8, w.extractLsb' 8 8, w.extractLsb' 0 8]

/-- `bswap64(w)` (00_scope.md R12): the eight bytes of a word in reverse. -/
def bswap64 (w : Block) : Block := load64 .be (store64 .le w)

/-- `bswap32(v)` (20_memory.md R66): the four bytes of a 32-bit value in reverse. -/
def bswap32 (v : Word) : Word :=
  v.extractLsb' 0 8 ++ v.extractLsb' 8 8 ++ v.extractLsb' 16 8 ++ v.extractLsb' 24 8

/-- The input block as the word `load64(b[0..7])` (44_block_transform.md R212). -/
def inputWord (cfg : Config) (e : Engine) : Block := load64 cfg.byteOrder (lanes e.din0 e.din1)

/-- The key as the word `load64(k[0..7])` (42_round_key_schedule.md R158): the key has the byte order of the data
(20_memory.md R67). -/
def keyWord (cfg : Config) (e : Engine) : Block := load64 cfg.byteOrder (lanes e.key0 e.key1)

/-- The length check of KEYSET: IN_LEN must be `KEY_BYTES`; OUT_LEN is not examined (60_exceptions.md R253 check 2). -/
def checkKeyLength (cfg : Config) (inLen : Byte) : Option ErrorCode :=
  if inLen.toNat = cfg.keyBytes then none else some .invalidKeyLength

/-- The length checks of a block command: the input, then the output (60_exceptions.md R253 checks 3 and 4). -/
def checkBlockLengths (inLen outLen : Byte) : Option ErrorCode :=
  if inLen ≠ 8#8 then some .invalidArgumentInput
  else if outLen ≠ 8#8 then some .invalidArgumentOutput
  else none

/-- The key check of ENCRYPT and DECRYPT (60_exceptions.md R253 check 5). -/
def checkKeyLoaded (keyValid : Bool) : Option ErrorCode :=
  if keyValid then none else some .noKey

/-- The checks of ENCRYPT and DECRYPT in order: the lengths, then the key (60_exceptions.md R253). -/
def checkCipher (inLen outLen : Byte) (keyValid : Bool) : Option ErrorCode :=
  match checkBlockLengths inLen outLen with
  | some c => some c
  | none => checkKeyLoaded keyValid

end Sys2Proof.Machine
end

