-- ==== Sys2Proof/Machine/Tables.lean ====
section
/-! DEFINITION. The table set DES_STD (00_scope.md R8) and the configuration of this hardware (R6). The entries are the
spec's own, position 1 being the most significant bit (R11); the spec marks them as general knowledge (log 8). -/

namespace Sys2Proof

/-- IP, the initial permutation (41_bit_permutation.md R124), row by row. -/
def ipTable : List Nat :=
  [58, 50, 42, 34, 26, 18, 10, 2] ++
  [60, 52, 44, 36, 28, 20, 12, 4] ++
  [62, 54, 46, 38, 30, 22, 14, 6] ++
  [64, 56, 48, 40, 32, 24, 16, 8] ++
  [57, 49, 41, 33, 25, 17, 9, 1] ++
  [59, 51, 43, 35, 27, 19, 11, 3] ++
  [61, 53, 45, 37, 29, 21, 13, 5] ++
  [63, 55, 47, 39, 31, 23, 15, 7]

/-- FP_ENGINE, the final permutation (41_bit_permutation.md R125): FIPS 46-3's IP^-1 with its 32-bit halves exchanged. -/
def fpEngineTable : List Nat :=
  [8, 40, 16, 48, 24, 56, 32, 64] ++
  [7, 39, 15, 47, 23, 55, 31, 63] ++
  [6, 38, 14, 46, 22, 54, 30, 62] ++
  [5, 37, 13, 45, 21, 53, 29, 61] ++
  [4, 36, 12, 44, 20, 52, 28, 60] ++
  [3, 35, 11, 43, 19, 51, 27, 59] ++
  [2, 34, 10, 42, 18, 50, 26, 58] ++
  [1, 33, 9, 41, 17, 49, 25, 57]

/-- FIPS 46-3's IP^-1, quoted in 41_bit_permutation.md R125. It is no table of the engine: FP_ENGINE is made from it. -/
def fipsInverseIpTable : List Nat :=
  [40, 8, 48, 16, 56, 24, 64, 32] ++
  [39, 7, 47, 15, 55, 23, 63, 31] ++
  [38, 6, 46, 14, 54, 22, 62, 30] ++
  [37, 5, 45, 13, 53, 21, 61, 29] ++
  [36, 4, 44, 12, 52, 20, 60, 28] ++
  [35, 3, 43, 11, 51, 19, 59, 27] ++
  [34, 2, 42, 10, 50, 18, 58, 26] ++
  [33, 1, 41, 9, 49, 17, 57, 25]

/-- PC1 (42_round_key_schedule.md R151), row by row. -/
def pc1Table : List Nat :=
  [57, 49, 41, 33, 25, 17, 9] ++
  [1, 58, 50, 42, 34, 26, 18] ++
  [10, 2, 59, 51, 43, 35, 27] ++
  [19, 11, 3, 60, 52, 44, 36] ++
  [63, 55, 47, 39, 31, 23, 15] ++
  [7, 62, 54, 46, 38, 30, 22] ++
  [14, 6, 61, 53, 45, 37, 29] ++
  [21, 13, 5, 28, 20, 12, 4]

/-- SHIFT (42_round_key_schedule.md R153); entry r + 1 is the rotation before round key r. -/
def shiftTable : List Nat :=
  [1, 1, 2, 2, 2, 2, 2, 2, 1, 2, 2, 2, 2, 2, 2, 1]

/-- PC2 (42_round_key_schedule.md R155), row by row. -/
def pc2Table : List Nat :=
  [14, 17, 11, 24, 1, 5] ++
  [3, 28, 15, 6, 21, 10] ++
  [23, 19, 12, 4, 26, 8] ++
  [16, 7, 27, 20, 13, 2] ++
  [41, 52, 31, 37, 47, 55] ++
  [30, 40, 51, 45, 33, 48] ++
  [44, 49, 39, 56, 34, 53] ++
  [46, 42, 50, 36, 29, 32]

/-- E, the expansion (43_feistel_function.md R181), row by row. -/
def eTable : List Nat :=
  [32, 1, 2, 3, 4, 5] ++
  [4, 5, 6, 7, 8, 9] ++
  [8, 9, 10, 11, 12, 13] ++
  [12, 13, 14, 15, 16, 17] ++
  [16, 17, 18, 19, 20, 21] ++
  [20, 21, 22, 23, 24, 25] ++
  [24, 25, 26, 27, 28, 29] ++
  [28, 29, 30, 31, 32, 1]

/-- P (43_feistel_function.md R187), row by row. -/
def pTable : List Nat :=
  [16, 7, 20, 21] ++
  [29, 12, 28, 17] ++
  [1, 15, 23, 26] ++
  [5, 18, 31, 10] ++
  [2, 8, 24, 14] ++
  [32, 27, 3, 9] ++
  [19, 13, 30, 6] ++
  [22, 11, 4, 25]

/-- TABLE_1, the rows of S1 (43_feistel_function.md R185). -/
def s1Rows : List (List Nat) :=
  [[14, 4, 13, 1, 2, 15, 11, 8, 3, 10, 6, 12, 5, 9, 0, 7],
   [0, 15, 7, 4, 14, 2, 13, 1, 10, 6, 12, 11, 9, 5, 3, 8],
   [4, 1, 14, 8, 13, 6, 2, 11, 15, 12, 9, 7, 3, 10, 5, 0],
   [15, 12, 8, 2, 4, 9, 1, 7, 5, 11, 3, 14, 10, 0, 6, 13]]

/-- TABLE_2, the rows of S2 (43_feistel_function.md R185). -/
def s2Rows : List (List Nat) :=
  [[15, 1, 8, 14, 6, 11, 3, 4, 9, 7, 2, 13, 12, 0, 5, 10],
   [3, 13, 4, 7, 15, 2, 8, 14, 12, 0, 1, 10, 6, 9, 11, 5],
   [0, 14, 7, 11, 10, 4, 13, 1, 5, 8, 12, 6, 9, 3, 2, 15],
   [13, 8, 10, 1, 3, 15, 4, 2, 11, 6, 7, 12, 0, 5, 14, 9]]

/-- TABLE_3, the rows of S3 (43_feistel_function.md R185). -/
def s3Rows : List (List Nat) :=
  [[10, 0, 9, 14, 6, 3, 15, 5, 1, 13, 12, 7, 11, 4, 2, 8],
   [13, 7, 0, 9, 3, 4, 6, 10, 2, 8, 5, 14, 12, 11, 15, 1],
   [13, 6, 4, 9, 8, 15, 3, 0, 11, 1, 2, 12, 5, 10, 14, 7],
   [1, 10, 13, 0, 6, 9, 8, 7, 4, 15, 14, 3, 11, 5, 2, 12]]

/-- TABLE_4, the rows of S4 (43_feistel_function.md R185). -/
def s4Rows : List (List Nat) :=
  [[7, 13, 14, 3, 0, 6, 9, 10, 1, 2, 8, 5, 11, 12, 4, 15],
   [13, 8, 11, 5, 6, 15, 0, 3, 4, 7, 2, 12, 1, 10, 14, 9],
   [10, 6, 9, 0, 12, 11, 7, 13, 15, 1, 3, 14, 5, 2, 8, 4],
   [3, 15, 0, 6, 10, 1, 13, 8, 9, 4, 5, 11, 12, 7, 2, 14]]

/-- TABLE_5, the rows of S5 (43_feistel_function.md R185). -/
def s5Rows : List (List Nat) :=
  [[2, 12, 4, 1, 7, 10, 11, 6, 8, 5, 3, 15, 13, 0, 14, 9],
   [14, 11, 2, 12, 4, 7, 13, 1, 5, 0, 15, 10, 3, 9, 8, 6],
   [4, 2, 1, 11, 10, 13, 7, 8, 15, 9, 12, 5, 6, 3, 0, 14],
   [11, 8, 12, 7, 1, 14, 2, 13, 6, 15, 0, 9, 10, 4, 5, 3]]

/-- TABLE_6, the rows of S6 (43_feistel_function.md R185). -/
def s6Rows : List (List Nat) :=
  [[12, 1, 10, 15, 9, 2, 6, 8, 0, 13, 3, 4, 14, 7, 5, 11],
   [10, 15, 4, 2, 7, 12, 9, 5, 6, 1, 13, 14, 0, 11, 3, 8],
   [9, 14, 15, 5, 2, 8, 12, 3, 7, 0, 4, 10, 1, 13, 11, 6],
   [4, 3, 2, 12, 9, 5, 15, 10, 11, 14, 1, 7, 6, 0, 8, 13]]

/-- TABLE_7, the rows of S7 (43_feistel_function.md R185). -/
def s7Rows : List (List Nat) :=
  [[4, 11, 2, 14, 15, 0, 8, 13, 3, 12, 9, 7, 5, 10, 6, 1],
   [13, 0, 11, 7, 4, 9, 1, 10, 14, 3, 5, 12, 2, 15, 8, 6],
   [1, 4, 11, 13, 12, 3, 7, 14, 10, 15, 6, 8, 0, 5, 9, 2],
   [6, 11, 13, 8, 1, 4, 10, 7, 9, 5, 0, 15, 14, 2, 3, 12]]

/-- TABLE_8, the rows of S8 (43_feistel_function.md R185). -/
def s8Rows : List (List Nat) :=
  [[13, 2, 8, 4, 6, 15, 11, 1, 10, 9, 3, 14, 5, 0, 12, 7],
   [1, 15, 13, 8, 10, 3, 7, 4, 12, 5, 6, 11, 0, 14, 9, 2],
   [7, 11, 4, 1, 9, 12, 14, 2, 0, 6, 10, 13, 15, 3, 5, 8],
   [2, 1, 14, 7, 4, 10, 8, 13, 15, 12, 9, 0, 3, 5, 6, 11]]

/-- An S-box as the 64-entry array indexed by the group g, from its printed 4 rows of 16 (43_feistel_function.md R184):
row = 2 g[5] + g[0], col = g[4:1]. -/
def flattenSbox (rows : List (List Nat)) : List Nat :=
  (List.range 64).map fun g => (rows.getD (2 * (g / 32) + g % 2) []).getD (g / 2 % 16) 0

/-- DES_STD (00_scope.md R8; log 8). -/
def desStd : Tables :=
  { ip := ipTable, fp := fpEngineTable, e := eTable, p := pTable, pc1 := pc1Table, pc2 := pc2Table, shift := shiftTable,
    sboxes := #v[flattenSbox s1Rows, flattenSbox s2Rows, flattenSbox s3Rows, flattenSbox s4Rows, flattenSbox s5Rows,
      flattenSbox s6Rows, flattenSbox s7Rows, flattenSbox s8Rows] }

/-- The configuration of this hardware (00_scope.md R6): LE, 8-byte keys, DES_STD, and `BASE` left open (log 5). -/
def Config.fce : Config :=
  { byteOrder := .le, keyBytes := 8, tables := desStd, base := 32 * Config.windowIndex }

end Sys2Proof
end

