-- ==== Sys2Proof/Machine/Ops.lean ====
section
/-! DEFINITION. The named operations over the registers: reading and writing one by its offset (20_memory.md R62, R69),
rejecting a command (60_exceptions.md R252), issuing a command (R251, R253, R255), latching its operands
(44_block_transform.md R212, 42_round_key_schedule.md R158) and writing the output (R217). The engine has no memory
(20_memory.md R61) and takes no trap, so there is nothing to return from: the rejection is its only error event
(60_exceptions.md R258). -/

namespace Sys2Proof.Machine

open Sys2Proof

/-! ### Registers -/

/-- The window offset of a register (20_memory.md R62). -/
def Reg.offset : Reg → Fin 32
  | .cmd => 0x00
  | .status => 0x04
  | .din0 => 0x08
  | .din1 => 0x0C
  | .key0 => 0x10
  | .key1 => 0x14
  | .dout0 => 0x18
  | .dout1 => 0x1C

/-- The registers in the order of the map (20_memory.md R62). -/
def Reg.all : List Reg := [.cmd, .status, .din0, .din1, .key0, .key1, .dout0, .dout1]

/-- The register at an offset; `none` where the offset is not a multiple of 4 (20_memory.md R62, R64). -/
def Reg.ofOffset (off : Fin 32) : Option Reg := Reg.all.find? fun r => r.offset == off

/-- What a read of a register returns (20_memory.md R69; 10_state.md R33, R34, R41 to R43). -/
def readReg (r : Reg) (e : Engine) : Word :=
  match r with
  | .cmd => e.cmd
  | .status => e.status.word
  | .din0 => 0#32
  | .din1 => 0#32
  | .key0 => 0#32
  | .key1 => 0#32
  | .dout0 => e.dout0
  | .dout1 => e.dout1

/-- A host write to a register other than CMD (20_memory.md R69): DIN and KEY take the value at any time, STATUS and
DOUT ignore it. A CMD write is a command issue and is not done here. -/
def writeReg (r : Reg) (v : Word) (e : Engine) : Engine :=
  match r with
  | .cmd => e
  | .status => e
  | .din0 => { e with din0 := v }
  | .din1 => { e with din1 := v }
  | .key0 => { e with key0 := v }
  | .key1 => { e with key1 := v }
  | .dout0 => e
  | .dout1 => e

/-! ### Issuing a command -/

/-- `raise Error(c)` (60_exceptions.md R252): `ERR <- c; DONE <- 1`, and nothing else changes. -/
def raiseError (c : ErrorCode) (e : Engine) : Engine := { e with status := e.status.rejected c }

/-- The write of the word v to CMD (60_exceptions.md R251, R255), given the result of its validation in the state the
write finds and the latch of its operands: one atomic event. -/
def issueCommand (v : Word) (check : Option ErrorCode) (latch : Engine → Engine) (e : Engine) : Engine :=
  if e.status.busy then { e with status := e.status.dropped }
  else
    let accepted : Engine := { e with cmd := v, status := e.status.accepted }
    match check with
    | some c => raiseError c accepted
    | none => latch { accepted with status := accepted.status.started }

/-- The latch of a block command (44_block_transform.md R212): the input block goes to X and DIN is cleared. -/
def latchBlock (cfg : Config) (op : Byte) (phase : Phase) (e : Engine) : Engine :=
  { e with x := inputWord cfg e, din0 := 0#32, din1 := 0#32, op := op, rnd := 0#5, phase := phase }

/-- The latch of KEYSET (42_round_key_schedule.md R158): the key goes to X, KEY is cleared and KEY_VALID is 0. -/
def latchKey (cfg : Config) (e : Engine) : Engine :=
  { e with x := keyWord cfg e, key0 := 0#32, key1 := 0#32, status := e.status.setKeyValid false, op := opKeyset,
           rnd := 0#5, phase := .init }

/-- `validate(v)` (60_exceptions.md R253) on the raw word, check by check as the rule lists them. The meanings check the
decoded fields (Operands.lean); that the two agree is a statement of its own. -/
def validate (cfg : Config) (v : Word) (keyValid : Bool) : Option ErrorCode :=
  if rsvdField v ≠ 0#8 ∨ opcodeField v ∉ [0x01#8, 0x02#8, 0x03#8, 0x04#8, 0x05#8] then some .illegalCommand
  else if opcodeField v = 0x01#8 ∧ (inLenField v).toNat ≠ cfg.keyBytes then some .invalidKeyLength
  else if opcodeField v ∈ [0x02#8, 0x03#8, 0x04#8, 0x05#8] ∧ inLenField v ≠ 8#8 then some .invalidArgumentInput
  else if opcodeField v ∈ [0x02#8, 0x03#8, 0x04#8, 0x05#8] ∧ outLenField v ≠ 8#8 then some .invalidArgumentOutput
  else if opcodeField v ∈ [0x02#8, 0x03#8] ∧ keyValid = false then some .noKey
  else none

/-! ### The controller's shared moves -/

/-- `DOUT0 <- o[3]‖o[2]‖o[1]‖o[0]; DOUT1 <- o[7]‖o[6]‖o[5]‖o[4]` for `o = store64(w)` (44_block_transform.md R217). -/
def writeOutput (cfg : Config) (w : Block) (e : Engine) : Engine :=
  { e with dout0 := lowLanes (store64 cfg.byteOrder w), dout1 := highLanes (store64 cfg.byteOrder w) }

/-- `RND <- r + 1; if r + 1 = 16 then PHASE <- FINAL` (44_block_transform.md R214, 42_round_key_schedule.md R158). -/
def advanceRound (r : Fin 16) (e : Engine) : Engine :=
  { e with rnd := BitVec.ofNat 5 (r.val + 1), phase := if r.val + 1 = 16 then .final else .round }

/-- `PHASE <- IDLE; BUSY <- 0; DONE <- 1`: how the final step of every command ends (10_state.md R35, R36). -/
def finishCommand (e : Engine) : Engine := { e with phase := .idle, status := e.status.finished }

/-! ### Building an engine -/

/-- No engine is built from an ill-formed configuration (41_bit_permutation.md R122, 43_feistel_function.md R184); a
well-formed one gives the engine of 10_state.md R52 (log 9). -/
def buildEngine (cfg : Config) : Option Engine := if cfg.wellFormed then some Engine.reset else none

end Sys2Proof.Machine
end

