-- ==== Sys2Proof/Machine/BitPermutation.lean ====
section
/-! DEFINITION. The bit-permutation unit (41_bit_permutation.md): IP and FP, the controller's PERM steps, and the
meanings of PERM_IP (R127) and PERM_FP (R128). -/

namespace Sys2Proof.Machine

open Sys2Proof

/-- `permute(IP, 64, w)` (41_bit_permutation.md R124). -/
def initialPermutation (cfg : Config) (w : Block) : Block := permute cfg.tables.ip w

/-- `permute(FP, 64, w)` (41_bit_permutation.md R125). -/
def finalPermutation (cfg : Config) (w : Block) : Block := permute cfg.tables.fp w

/-- The step with PHASE = PERM, OP = 0x04 (41_bit_permutation.md R127). -/
def permIpStep (cfg : Config) (e : Engine) : Engine :=
  finishCommand { writeOutput cfg (initialPermutation cfg e.x) e with x := 0#64 }

/-- The step with PHASE = PERM, OP = 0x05 (41_bit_permutation.md R128). -/
def permFpStep (cfg : Config) (e : Engine) : Engine :=
  finishCommand { writeOutput cfg (finalPermutation cfg e.x) e with x := 0#64 }

/-- The issue of PERM_IP: no key is needed (41_bit_permutation.md R127, 60_exceptions.md R251). -/
def issuePermIp (cfg : Config) (inLen outLen : Byte) (e : Engine) : Engine :=
  issueCommand (encode (.permIp inLen outLen)) (checkBlockLengths inLen outLen) (latchBlock cfg opPermIp .perm) e

/-- The issue of PERM_FP: no key is needed (41_bit_permutation.md R128, 60_exceptions.md R251). -/
def issuePermFp (cfg : Config) (inLen outLen : Byte) (e : Engine) : Engine :=
  issueCommand (encode (.permFp inLen outLen)) (checkBlockLengths inLen outLen) (latchBlock cfg opPermFp .perm) e

/-- PERM_IP (41_bit_permutation.md R127). -/
def execPermIp (inLen outLen : Byte) (s : State) : Host.Outcome State Fault Refusal :=
  .next { s with engine := issuePermIp Config.fce inLen outLen s.engine }

/-- PERM_FP (41_bit_permutation.md R128). -/
def execPermFp (inLen outLen : Byte) (s : State) : Host.Outcome State Fault Refusal :=
  .next { s with engine := issuePermFp Config.fce inLen outLen s.engine }

end Sys2Proof.Machine
end

