-- ==== Sys2Proof/Machine/Feistel.lean ====
section
/-! DEFINITION. The Feistel-function unit (43_feistel_function.md): expansion, key mixing, the eight S-boxes, P. It holds
no state (R180) and has no command of its own. -/

namespace Sys2Proof.Machine

open Sys2Proof

/-- (a) `permute(E, 32, r)` (43_feistel_function.md R181). -/
def expand (cfg : Config) (r : HalfBlock) : BitVec 48 := permute cfg.tables.e r

/-- (c) The group of lane j + 1, `x[47 - 6j : 42 - 6j]` (43_feistel_function.md R183). -/
def sboxGroup (x : BitVec 48) (j : Fin 8) : BitVec 6 := x.extractLsb' (42 - 6 * j.val) 6

/-- (d) `S[g]` of a 64-entry box (43_feistel_function.md R184). -/
def sboxLookup (box : List Nat) (g : BitVec 6) : BitVec 4 := BitVec.ofNat 4 (box.getD g.toNat 0)

/-- (d) The output of lane j + 1: S_(j+1) alone, at that lane's group (43_feistel_function.md R184, R188). -/
def sboxLane (cfg : Config) (x : BitVec 48) (j : Fin 8) : BitVec 4 :=
  sboxLookup cfg.tables.sboxes[j] (sboxGroup x j)

/-- `s_1 ‖ s_2 ‖ ... ‖ s_8` (43_feistel_function.md R186). -/
def substitute (cfg : Config) (x : BitVec 48) : HalfBlock :=
  sboxLane cfg x 0 ++ sboxLane cfg x 1 ++ sboxLane cfg x 2 ++ sboxLane cfg x 3 ++
    sboxLane cfg x 4 ++ sboxLane cfg x 5 ++ sboxLane cfg x 6 ++ sboxLane cfg x 7

/-- F(r, k) (43_feistel_function.md R190). -/
def feistel (cfg : Config) (r : HalfBlock) (k : RoundKey) : HalfBlock :=
  permute cfg.tables.p (substitute cfg (expand cfg r ^^^ k))

end Sys2Proof.Machine
end

