-- ==== Sys2Proof/Machine/BlockTransform.lean ====
section
/-! DEFINITION. The block transform (44_block_transform.md): the function BT (R220), the controller's INIT, ROUND and
FINAL steps of ENCRYPT and DECRYPT (R213, R214, R217), and the meanings of the two commands (R218, R219). -/

namespace Sys2Proof.Machine

open Sys2Proof

/-- The key order: ENC is ENCRYPT, DEC is DECRYPT (44_block_transform.md R215). -/
inductive KeyOrder where
  | enc
  | dec
  deriving DecidableEq, Repr

/-- The opcode whose rounds use a key order (44_block_transform.md R214). -/
def KeyOrder.opcode : KeyOrder → Byte
  | .enc => opEncrypt
  | .dec => opDecrypt

/-! ### The function -/

/-- The round key of round r + 1: `RK[r]`, or `RK[15 - r]` (44_block_transform.md R214, R215). -/
def roundKey (dir : KeyOrder) (rk : KeyFile) (r : Fin 16) : RoundKey :=
  match dir with
  | .enc => rk[r]
  | .dec => rk[r.rev]

/-- `w <- permute(IP, 64, W); L <- w[63:32]; R <- w[31:0]` (44_block_transform.md R213). -/
def splitBlock (cfg : Config) (w : Block) : HalfBlock × HalfBlock :=
  ((initialPermutation cfg w).extractLsb' 32 32, (initialPermutation cfg w).extractLsb' 0 32)

/-- `(L, R) <- (R, L ⊕ F(R, k))`, both from the halves before the round (44_block_transform.md R214). -/
def feistelRound (cfg : Config) (k : RoundKey) (lr : HalfBlock × HalfBlock) : HalfBlock × HalfBlock :=
  (lr.2, lr.1 ^^^ feistel cfg lr.2 k)

/-- The halves after the first n rounds, n at most 16. -/
def roundHalves (cfg : Config) (dir : KeyOrder) (rk : KeyFile) (w : Block) : Nat → HalfBlock × HalfBlock
  | 0 => splitBlock cfg w
  | n + 1 => feistelRound cfg (roundKey dir rk (Fin.ofNat 16 n)) (roundHalves cfg dir rk w n)

/-- `permute(FP, 64, L ‖ R)`, with no exchange of the halves (44_block_transform.md R216, R217). -/
def joinHalves (cfg : Config) (lr : HalfBlock × HalfBlock) : Block := finalPermutation cfg (lr.1 ++ lr.2)

/-- BT(dir, RK, W) (44_block_transform.md R220). -/
def blockTransform (cfg : Config) (dir : KeyOrder) (rk : KeyFile) (w : Block) : Block :=
  joinHalves cfg (roundHalves cfg dir rk w 16)

/-! ### The controller's steps with OP = 0x02, 0x03 -/

/-- The INIT step (44_block_transform.md R213). -/
def cipherInit (cfg : Config) (e : Engine) : Engine :=
  { e with l := (splitBlock cfg e.x).1, r := (splitBlock cfg e.x).2, x := 0#64, phase := .round }

/-- The ROUND step with RND = r (44_block_transform.md R214). -/
def cipherRound (cfg : Config) (dir : KeyOrder) (r : Fin 16) (e : Engine) : Engine :=
  let lr := feistelRound cfg (roundKey dir e.rk r) (e.l, e.r)
  advanceRound r { e with l := lr.1, r := lr.2 }

/-- The FINAL step (44_block_transform.md R217). -/
def cipherFinal (cfg : Config) (e : Engine) : Engine :=
  finishCommand { writeOutput cfg (joinHalves cfg (e.l, e.r)) e with l := 0#32, r := 0#32, rnd := 0#5 }

/-! ### The commands -/

/-- The issue of ENCRYPT (44_block_transform.md R218, 60_exceptions.md R251). -/
def issueEncrypt (cfg : Config) (inLen outLen : Byte) (e : Engine) : Engine :=
  issueCommand (encode (.encrypt inLen outLen)) (checkCipher inLen outLen e.status.keyValid)
    (latchBlock cfg opEncrypt .init) e

/-- The issue of DECRYPT (44_block_transform.md R219, 60_exceptions.md R251). -/
def issueDecrypt (cfg : Config) (inLen outLen : Byte) (e : Engine) : Engine :=
  issueCommand (encode (.decrypt inLen outLen)) (checkCipher inLen outLen e.status.keyValid)
    (latchBlock cfg opDecrypt .init) e

/-- ENCRYPT (44_block_transform.md R218). -/
def execEncrypt (inLen outLen : Byte) (s : State) : Host.Outcome State Fault Refusal :=
  .next { s with engine := issueEncrypt Config.fce inLen outLen s.engine }

/-- DECRYPT (44_block_transform.md R219). -/
def execDecrypt (inLen outLen : Byte) (s : State) : Host.Outcome State Fault Refusal :=
  .next { s with engine := issueDecrypt Config.fce inLen outLen s.engine }

end Sys2Proof.Machine
end

