-- ==== Sys2Proof/Machine/KeySchedule.lean ====
section
/-! DEFINITION. The round-key scheduler (42_round_key_schedule.md): the function KS (R157), the controller's KEYSET
steps, and the meaning of KEYSET (R158). -/

namespace Sys2Proof.Machine

open Sys2Proof

/-! ### The derivation -/

/-- `cd <- permute(PC1, 64, K); C <- cd[55:28]; D <- cd[27:0]` (42_round_key_schedule.md R152). -/
def splitKey (cfg : Config) (k : Block) : KeyHalf × KeyHalf :=
  let cd : BitVec 56 := permute cfg.tables.pc1 k
  (cd.extractLsb' 28 28, cd.extractLsb' 0 28)

/-- The halves rotated by `SHIFT[r+1]` (42_round_key_schedule.md R154). -/
def rotateHalves (cfg : Config) (r : Nat) (cd : KeyHalf × KeyHalf) : KeyHalf × KeyHalf :=
  (rol28 (cfg.tables.shift.getD r 0) cd.1, rol28 (cfg.tables.shift.getD r 0) cd.2)

/-- `permute(PC2, 56, C ‖ D)` (42_round_key_schedule.md R156). -/
def compressKey (cfg : Config) (cd : KeyHalf × KeyHalf) : RoundKey :=
  permute cfg.tables.pc2 (cd.1 ++ cd.2 : BitVec 56)

/-- The halves after n cumulative rotations (42_round_key_schedule.md R154). -/
def keyHalves (cfg : Config) (k : Block) : Nat → KeyHalf × KeyHalf
  | 0 => splitKey cfg k
  | n + 1 => rotateHalves cfg n (keyHalves cfg k n)

/-- Round key r of the key word k (42_round_key_schedule.md R156). -/
def scheduledKey (cfg : Config) (k : Block) (r : Nat) : RoundKey := compressKey cfg (keyHalves cfg k (r + 1))

/-- KS (42_round_key_schedule.md R157): the sixteen round keys of a key word. -/
def keySchedule (cfg : Config) (k : Block) : KeyFile := Vector.ofFn fun r => scheduledKey cfg k r.val

/-! ### The controller's steps with OP = 0x01 -/

/-- The INIT step of KEYSET (42_round_key_schedule.md R158). -/
def keysetInit (cfg : Config) (e : Engine) : Engine :=
  { e with c := (splitKey cfg e.x).1, d := (splitKey cfg e.x).2, x := 0#64, phase := .round }

/-- The ROUND step of KEYSET with RND = r (42_round_key_schedule.md R158). -/
def keysetRound (cfg : Config) (r : Fin 16) (e : Engine) : Engine :=
  let cd := rotateHalves cfg r.val (e.c, e.d)
  advanceRound r { e with c := cd.1, d := cd.2, rk := e.rk.set r.val (compressKey cfg cd) r.isLt }

/-- The FINAL step of KEYSET (42_round_key_schedule.md R158). -/
def keysetFinal (e : Engine) : Engine :=
  finishCommand { e with c := 0#28, d := 0#28, rnd := 0#5, status := e.status.setKeyValid true }

/-! ### The command -/

/-- The issue of KEYSET (42_round_key_schedule.md R158, 60_exceptions.md R251). -/
def issueKeyset (cfg : Config) (inLen outLen : Byte) (e : Engine) : Engine :=
  issueCommand (encode (.keyset inLen outLen)) (checkKeyLength cfg inLen) (latchKey cfg) e

/-- KEYSET (42_round_key_schedule.md R158). -/
def execKeyset (inLen outLen : Byte) (s : State) : Host.Outcome State Fault Refusal :=
  .next { s with engine := issueKeyset Config.fce inLen outLen s.engine }

end Sys2Proof.Machine
end

