-- ==== Sys2Proof/Machine/Controller.lean ====
section
/-! DEFINITION. The iteration controller (44_block_transform.md R211): its step, chosen by (PHASE, OP), and its turn in
the machine. -/

namespace Sys2Proof.Machine

open Sys2Proof

/-- The key order an opcode selects, for ENCRYPT and DECRYPT alone (44_block_transform.md R214). -/
def keyOrderOf (op : Byte) : Option KeyOrder :=
  if op = opEncrypt then some .enc else if op = opDecrypt then some .dec else none

/-- The INIT row of 44_block_transform.md R211. -/
def stepInit (cfg : Config) (e : Engine) : Option Engine :=
  if e.op = opKeyset then some (keysetInit cfg e)
  else (keyOrderOf e.op).map fun _ => cipherInit cfg e

/-- The ROUND row of 44_block_transform.md R211; r is 0..15. -/
def stepRound (cfg : Config) (e : Engine) : Option Engine :=
  if h : e.rnd.toNat < 16 then
    if e.op = opKeyset then some (keysetRound cfg ⟨e.rnd.toNat, h⟩ e)
    else (keyOrderOf e.op).map fun dir => cipherRound cfg dir ⟨e.rnd.toNat, h⟩ e
  else none

/-- The FINAL row of 44_block_transform.md R211. -/
def stepFinal (cfg : Config) (e : Engine) : Option Engine :=
  if e.op = opKeyset then some (keysetFinal e)
  else (keyOrderOf e.op).map fun _ => cipherFinal cfg e

/-- The PERM rows of 44_block_transform.md R211. -/
def stepPerm (cfg : Config) (e : Engine) : Option Engine :=
  if e.op = opPermIp then some (permIpStep cfg e)
  else if e.op = opPermFp then some (permFpStep cfg e)
  else none

/-- One step of the controller (44_block_transform.md R211). In IDLE no step is enabled and all state is held
(60_exceptions.md R264). `none` where R211 has no row (log 6). -/
def controllerStep (cfg : Config) (e : Engine) : Option Engine :=
  match e.phase with
  | .idle => some e
  | .init => stepInit cfg e
  | .round => stepRound cfg e
  | .final => stepFinal cfg e
  | .perm => stepPerm cfg e

/-- n turns of the controller with nothing else between them. -/
def runController (cfg : Config) : Nat → Engine → Option Engine
  | 0, e => some e
  | n + 1, e => (controllerStep cfg e).bind (runController cfg n)

/-- The controller's turn in the machine. -/
def controllerTurn (s : State) : Host.Outcome State Fault Refusal :=
  match controllerStep Config.fce s.engine with
  | some e => .next { s with engine := e }
  | none => .fault .noControllerRule

end Sys2Proof.Machine
end

