-- ==== Sys2Proof/Machine/Dispatch.lean ====
section
/-! DEFINITION. What each command does when its word is written to CMD: one arm per row of spec/opcode_table.json. -/

namespace Sys2Proof.Machine

open Sys2Proof

def exec (i : Instr) (s : State) : Host.Outcome State Fault Refusal :=
  match i with
  | .keyset inLen outLen => Sys2Proof.Machine.execKeyset inLen outLen s
  | .encrypt inLen outLen => Sys2Proof.Machine.execEncrypt inLen outLen s
  | .decrypt inLen outLen => Sys2Proof.Machine.execDecrypt inLen outLen s
  | .permIp inLen outLen => Sys2Proof.Machine.execPermIp inLen outLen s
  | .permFp inLen outLen => Sys2Proof.Machine.execPermFp inLen outLen s

end Sys2Proof.Machine
end

