-- ==== Sys2Proof/Machine/Bus.lean ====
section
/-! DEFINITION. The host's side of the machine (20_memory.md): one access of the register window, the `wait` poll
(30_encoding.md R97), reset (70_reset_and_hazards.md R280), and the delivery of an access at an absolute address (R60). -/

namespace Sys2Proof.Machine

open Sys2Proof

/-- A word written to CMD (60_exceptions.md R251): a defined word runs its command, every other one is accepted and
rejected with IllegalCommand, or dropped while BUSY (30_encoding.md R93, R95). -/
def commandWrite (v : Word) (s : State) : Host.Outcome State Fault Refusal :=
  match decode v with
  | some i => exec i s
  | none => .next { s with engine := issueCommand v (some .illegalCommand) id s.engine }

/-- A bus error to the master: no engine state changes (20_memory.md R64, 60_exceptions.md R256; log 3). -/
def busError (s : State) : Host.Outcome State Fault Refusal := .next { s with reply := .busError }

/-- `HostRead(off)` (20_memory.md R63, R69): no side effect on the engine. -/
def hostRead (off : Fin 32) (s : State) : Host.Outcome State Fault Refusal :=
  match Reg.ofOffset off with
  | some r => .next { s with reply := .data (readReg r s.engine) }
  | none => busError s

/-- `HostWrite(off, v)` (20_memory.md R63, R69). -/
def hostWrite (off : Fin 32) (v : Word) (s : State) : Host.Outcome State Fault Refusal :=
  match Reg.ofOffset off with
  | some .cmd => commandWrite v { s with reply := .written }
  | some r => .next { s with engine := writeReg r v s.engine, reply := .written }
  | none => busError s

/-- One host access (20_memory.md R63, R64). -/
def hostAccess (a : Access) (s : State) : Host.Outcome State Fault Refusal :=
  match a with
  | .read32 off => hostRead off s
  | .write32 off v => hostWrite off v s
  | .other _ _ _ => busError s

/-- The controller turns that pass after a poll that found BUSY set, and the polls' remaining gaps (log 7). -/
def waitGap (gaps : List Nat) : Nat × List Nat :=
  match gaps with
  | [] => (1, [])
  | n :: rest => (n, rest)

/-- One poll of `wait` (30_encoding.md R97): a read of STATUS; while it shows BUSY the poll comes again, after the
controller turns of its gap. DESIGN CHOICE (log 7): the next poll and the turns of its gap go before all other pending
events, so nothing but controller turns happens between two polls of one `wait`. A run in which a reset or another
master's access falls between two polls is written with single reads of STATUS instead. -/
def waitPoll (gaps : List Nat) (s : State) : Host.Outcome State Fault Refusal :=
  let polled : State := { s with reply := .data (readReg .status s.engine) }
  if s.engine.status.busy then
    .next { polled with events := List.replicate (waitGap gaps).1 .controller ++ .wait (waitGap gaps).2 :: s.events }
  else .next polled

/-- Reset (70_reset_and_hazards.md R280): every register takes its reset value. -/
def resetEngine (s : State) : Host.Outcome State Fault Refusal := .next { s with engine := Engine.reset }

/-- What one event does. -/
def handleEvent (ev : Event) (s : State) : Host.Outcome State Fault Refusal :=
  match ev with
  | .access a => hostAccess a s
  | .controller => controllerTurn s
  | .reset => resetEngine s
  | .wait gaps => waitPoll gaps s

/-- The window offset of an absolute address; `none` outside the 32-byte window at `BASE` (20_memory.md R60). -/
def windowOffset (cfg : Config) (addr : Nat) : Option (Fin 32) :=
  if h : cfg.base ≤ addr ∧ addr < cfg.base + 32 then some ⟨addr - cfg.base, by omega⟩ else none

/-- A master's access at an absolute address joins the pending events; an address outside the window is not decoded by
the engine, and the model stops (20_memory.md R60; log 5). -/
def busRequest (addr : Nat) (make : Fin 32 → Access) (s : State) : Host.Outcome State Fault Refusal :=
  match windowOffset Config.fce addr with
  | some off => .next { s with events := s.events ++ [.access (make off)] }
  | none => .fault .outsideWindow

end Sys2Proof.Machine
end

