-- ==== Sys2Proof/Machine/Step.lean ====
section
/-! DEFINITION. One step of the machine: the oldest pending event happens (20_memory.md R71); with none pending the
controller takes its turn (70_reset_and_hazards.md R289). -/

namespace Sys2Proof.Machine

open Sys2Proof

/-- One atomic event (20_memory.md R71). With no event pending the controller steps if it is enabled, and in IDLE the
machine holds its state (60_exceptions.md R264; log 1). -/
def step (s : State) : Host.Outcome State Fault Refusal :=
  match s.events with
  | [] => controllerTurn s
  | ev :: rest => handleEvent ev { s with events := rest }

/-- s with the host's write of the command word w to CMD as its very next event: the engine fetches no instructions
(10_state.md R32), so the host's accesses are the program (log 10). The bits of w above `nbits` are 0, and a word has 32
bits. -/
def State.withFetchWord (s : State) (nbits w : Nat) : State :=
  { s with events := .access (.write32 (Reg.offset .cmd) (BitVec.ofNat 32 (w % 2 ^ nbits))) :: s.events }

end Sys2Proof.Machine
end

