-- ==== Sys2Proof/Machine/HostProgram.lean ====
section
/-! DEFINITION. The host-program notation (30_encoding.md R96) and its pseudo-instructions (R97), as the events they put
before the machine. -/

namespace Sys2Proof.Machine

open Sys2Proof

/-- A statement (30_encoding.md R96), and the `wait` of R97. -/
inductive Stmt where
  /-- `wr REG, imm32`. -/
  | wr (reg : Reg) (imm : Word)
  /-- `rd REG`. -/
  | rd (reg : Reg)
  /-- `cmd imm32`. -/
  | cmd (imm : Word)
  /-- `wait`, with the controller turns between its polls (log 7). -/
  | wait (gaps : List Nat)
  deriving DecidableEq, Repr

/-- The event of a statement (30_encoding.md R96): `wr` is HostWrite, `rd` is HostRead, `cmd imm32` is `wr CMD, imm32`. -/
def Stmt.event : Stmt → Event
  | .wr reg imm => .access (.write32 reg.offset imm)
  | .rd reg => .access (.read32 reg.offset)
  | .cmd imm => .access (.write32 (Reg.offset .cmd) imm)
  | .wait gaps => .wait gaps

/-- The pseudo-instructions (30_encoding.md R97) but `wait`, which is a statement above. -/
inductive Pseudo where
  /-- `keyset`. -/
  | keyset
  /-- `keyset n`. -/
  | keysetLen (n : Byte)
  /-- `encrypt`. -/
  | encrypt
  /-- `decrypt`. -/
  | decrypt
  /-- `perm_ip`. -/
  | permIp
  /-- `perm_fp`. -/
  | permFp
  /-- `encrypt i, o`. -/
  | encryptLen (i o : Byte)
  /-- `decrypt i, o`. -/
  | decryptLen (i o : Byte)
  /-- `perm_ip i, o`. -/
  | permIpLen (i o : Byte)
  /-- `perm_fp i, o`. -/
  | permFpLen (i o : Byte)
  /-- `setkey K`. -/
  | setkey (k : Block)
  /-- `setdin W`. -/
  | setdin (w : Block)
  /-- `getdout`. -/
  | getdout
  deriving DecidableEq, Repr

/-- The expansion of a pseudo-instruction (30_encoding.md R97). `setkey` and `setdin` write the register values whose
`load64` is the word. -/
def Pseudo.expand (cfg : Config) : Pseudo → List Stmt
  | .keyset => [.cmd 0x00080001#32]
  | .keysetLen n => [.cmd (n.zeroExtend 32 <<< 16 ||| 0x01#32)]
  | .encrypt => [.cmd 0x08080002#32]
  | .decrypt => [.cmd 0x08080003#32]
  | .permIp => [.cmd 0x08080004#32]
  | .permFp => [.cmd 0x08080005#32]
  | .encryptLen i o => [.cmd (o.zeroExtend 32 <<< 24 ||| i.zeroExtend 32 <<< 16 ||| 0x02#32)]
  | .decryptLen i o => [.cmd (o.zeroExtend 32 <<< 24 ||| i.zeroExtend 32 <<< 16 ||| 0x03#32)]
  | .permIpLen i o => [.cmd (o.zeroExtend 32 <<< 24 ||| i.zeroExtend 32 <<< 16 ||| 0x04#32)]
  | .permFpLen i o => [.cmd (o.zeroExtend 32 <<< 24 ||| i.zeroExtend 32 <<< 16 ||| 0x05#32)]
  | .setkey k => [.wr .key0 (lowLanes (store64 cfg.byteOrder k)), .wr .key1 (highLanes (store64 cfg.byteOrder k))]
  | .setdin w => [.wr .din0 (lowLanes (store64 cfg.byteOrder w)), .wr .din1 (highLanes (store64 cfg.byteOrder w))]
  | .getdout => [.rd .dout0, .rd .dout1]

/-- The result word of `getdout`: `load64` of the eight bytes read (30_encoding.md R97). -/
def outputWord (cfg : Config) (dout0 dout1 : Word) : Block := load64 cfg.byteOrder (lanes dout0 dout1)

/-- The events of a host program with what happens between its statements. How many controller turns, and which resets
and accesses of other masters, come before a statement is left open (20_memory.md R71, 70_reset_and_hazards.md R280,
R289), so it is data: `between[i]` happens before statement i. DESIGN CHOICE (log 15): once the list is used up nothing
happens there, so such statements follow each other with no controller turn between them. -/
def programEvents : List (List Event) → List Stmt → List Event
  | _, [] => []
  | [], st :: prog => st.event :: programEvents [] prog
  | events :: between, st :: prog => events ++ st.event :: programEvents between prog

/-- A host program before a machine: its statements' events, with those between them, join the pending ones in order
(30_encoding.md R96; log 15). -/
def State.loadProgram (between : List (List Event)) (prog : List Stmt) (s : State) : State :=
  { s with events := s.events ++ programEvents between prog }

end Sys2Proof.Machine
end

