-- ==== Sys2Proof/Safety.lean ====
section
/-! DEFINITION. What claims about runs of the machine are stated in: the invariants of 10_state.md R51, the legality of
the controller's state (44_block_transform.md R211), and what KEY_VALID says of the round-key file (10_state.md R37). -/

namespace Sys2Proof.Machine

open Sys2Proof

/-- The invariants of 10_state.md R51, in its order. -/
abbrev Engine.Consistent (e : Engine) : Prop :=
  (e.status.busy = true ↔ e.phase ≠ .idle) ∧
  ¬(e.status.busy = true ∧ e.status.done = true) ∧
  (e.phase = .idle → e.rnd = 0#5 ∧ e.x = 0#64 ∧ e.l = 0#32 ∧ e.r = 0#32 ∧ e.c = 0#28 ∧ e.d = 0#28) ∧
  (e.phase = .round → e.rnd.toNat ≤ 15) ∧
  (e.phase = .final → e.op ∈ [opKeyset, opEncrypt, opDecrypt] → e.rnd.toNat = 16) ∧
  (e.status.err ≠ 0#4 → e.status.busy = false)

/-- The controller is in a row of 44_block_transform.md R211's table, its counter is in 0..16 (10_state.md R47), and each
hidden register holds a value only in the steps between which some rule carries it (10_state.md R44 to R46). -/
abbrev Engine.LegalController (e : Engine) : Prop :=
  (e.phase = .init ∨ e.phase = .round ∨ e.phase = .final → e.op ∈ [opKeyset, opEncrypt, opDecrypt]) ∧
  (e.phase = .perm → e.op ∈ [opPermIp, opPermFp]) ∧
  (e.phase = .init ∨ e.phase = .perm → e.rnd = 0#5) ∧
  (e.phase = .round ∨ e.phase = .final → e.x = 0#64) ∧
  e.rnd.toNat ≤ 16 ∧
  ((e.phase = .round ∨ e.phase = .final) ∧ e.op = opKeyset ∨ e.c = 0#28 ∧ e.d = 0#28) ∧
  ((e.phase = .round ∨ e.phase = .final) ∧ e.op ∈ [opEncrypt, opDecrypt] ∨ e.l = 0#32 ∧ e.r = 0#32)

/-- The flags agree with the command that runs: KEY_VALID is 0 while KEYSET runs (10_state.md R37) and 1 while ENCRYPT or
DECRYPT runs (60_exceptions.md R253), and ERR is one of the codes of 60_exceptions.md R250. -/
abbrev Engine.FlagsAgree (e : Engine) : Prop :=
  (e.phase ≠ .idle → e.op = opKeyset → e.status.keyValid = false) ∧
  (e.phase ≠ .idle → e.op ∈ [opEncrypt, opDecrypt] → e.status.keyValid = true) ∧
  e.status.err.toNat ≤ 5

/-- The engine's invariant: what every step keeps. -/
abbrev Engine.Inv (e : Engine) : Prop := e.Consistent ∧ e.LegalController ∧ e.FlagsAgree

/-- The invariant of the machine. Nothing is asked of the pending events or of the last reply. -/
abbrev State.Inv (s : State) : Prop := s.engine.Inv

/-- What the round-key file holds. KEY_VALID = 1 means a complete schedule of some key word (10_state.md R37), and while
KEYSET is in a ROUND or FINAL step its halves and the slots below RND are those of the key it was given
(42_round_key_schedule.md R158). -/
def Engine.KeysAgree (cfg : Config) (e : Engine) : Prop :=
  (e.status.keyValid = true → ∃ k : Block, e.rk = keySchedule cfg k) ∧
  (e.op = opKeyset → e.phase = .round ∨ e.phase = .final →
    ∃ k : Block, (e.c, e.d) = keyHalves cfg k e.rnd.toNat ∧
      ∀ i : Fin 16, i.val < e.rnd.toNat → e.rk[i] = scheduledKey cfg k i.val)

/-- The engine as a master could tell it apart by reads alone: what R69 of 20_memory.md lets a read return. -/
abbrev Engine.sameReads (e e' : Engine) : Prop :=
  e.cmd = e'.cmd ∧ e.status = e'.status ∧ e.dout0 = e'.dout0 ∧ e.dout1 = e'.dout1

/-- Two engines that agree on everything a running command computes with and on everything it has written. -/
abbrev Engine.sameCommand (e e' : Engine) : Prop :=
  e.rk = e'.rk ∧ e.x = e'.x ∧ e.l = e'.l ∧ e.r = e'.r ∧ e.c = e'.c ∧ e.d = e'.d ∧ e.phase = e'.phase ∧
    e.rnd = e'.rnd ∧ e.op = e'.op ∧ e.dout0 = e'.dout0 ∧ e.dout1 = e'.dout1

end Sys2Proof.Machine
end

