-- ==== Sys2Proof/Certificates/Slice0/Obligations.lean ====
section
/-! DEFINITION. The statements for the provers. Each docstring says which rule of spec/ it formalises; `Config.fce` is
this hardware's configuration (00_scope.md R6), and a statement over every `cfg` holds for both byte orders and every
table set. -/

open Sys2Proof Sys2Proof.Machine

/-! ### Reset -/

/-- 10_state.md R52: the value of every register after reset. -/
def Obligations.ResetValues : Prop :=
  let e := State.reset.engine
  e.cmd = 0x00000000#32 ∧ e.status.word = 0x00000000#32 ∧ e.status.busy = false ∧ e.status.done = false ∧
    e.status.keyValid = false ∧ e.status.overrun = false ∧ e.status.err = 0#4 ∧
    e.din0 = 0x00000000#32 ∧ e.din1 = 0x00000000#32 ∧ e.key0 = 0x00000000#32 ∧ e.key1 = 0x00000000#32 ∧
    e.dout0 = 0x00000000#32 ∧ e.dout1 = 0x00000000#32 ∧ (∀ i : Fin 16, e.rk[i] = 0x000000000000#48) ∧
    e.x = 0#64 ∧ e.l = 0#32 ∧ e.r = 0#32 ∧ e.c = 0#28 ∧ e.d = 0#28 ∧ e.rnd = 0#5 ∧ e.phase = .idle ∧ e.op = 0x00#8

/-- 70_reset_and_hazards.md R280: a reset event, in any state and so also while a command executes, sets every register
to its reset value. -/
def Obligations.ResetEventSetsEveryRegister : Prop :=
  ∀ (s : State) (rest : List Event), s.events = .reset :: rest →
    ∃ e : Engine, step s = .next { s with engine := e, events := rest } ∧
      e.cmd = 0#32 ∧ e.status.word = 0#32 ∧ e.din0 = 0#32 ∧ e.din1 = 0#32 ∧ e.key0 = 0#32 ∧ e.key1 = 0#32 ∧
      e.dout0 = 0#32 ∧ e.dout1 = 0#32 ∧ (∀ i : Fin 16, e.rk[i] = 0#48) ∧ e.x = 0#64 ∧ e.l = 0#32 ∧ e.r = 0#32 ∧
      e.c = 0#28 ∧ e.d = 0#28 ∧ e.rnd = 0#5 ∧ e.op = 0#8 ∧ e.phase = .idle ∧
      e.status.busy = false ∧ e.status.done = false ∧ e.status.keyValid = false ∧ e.status.overrun = false ∧
      e.status.err = 0#4

/-- 70_reset_and_hazards.md R281, R282: a reset aborts the command that runs. Whatever the engine was doing, after the
reset and any number of controller turns its registers are those of reset: the command's FINAL step never happens. -/
def Obligations.ResetAbortsTheRunningCommand : Prop :=
  ∀ (s : State) (n : Nat), s.events = [.reset] →
    Host.Core.run Sys2Proof.core (n + 1) s = .next { s with engine := State.reset.engine, events := [] }

/-! ### The register window -/

/-- 10_state.md R34: the layout of STATUS, that a read returns it and changes no field, that a write is ignored, and the
reset values of its fields. -/
def Obligations.StatusRegister : Prop :=
  (∀ st : Status,
    st.word.getLsbD 0 = st.busy ∧ st.word.getLsbD 1 = st.done ∧ st.word.getLsbD 2 = st.keyValid ∧
      st.word.getLsbD 3 = st.overrun ∧ st.word.extractLsb' 4 4 = st.err ∧ st.word.extractLsb' 8 24 = 0#24) ∧
  (∀ (s : State) (rest : List Event), s.events = .access (.read32 0x04) :: rest →
    step s = .next { s with events := rest, reply := .data s.engine.status.word }) ∧
  (∀ (s : State) (v : Word) (rest : List Event), s.events = .access (.write32 0x04 v) :: rest →
    step s = .next { s with events := rest, reply := .written }) ∧
  State.reset.engine.status = { busy := false, done := false, keyValid := false, overrun := false, err := 0#4 }

/-- 20_memory.md R69: the effect of every 32-bit host access of a register, and what each read returns. A read changes
nothing in the engine; a write of DIN or KEY changes that register alone, at any time; a write of CMD is a command
issue; a write of STATUS or DOUT changes nothing. -/
def Obligations.HostAccessEffects : Prop :=
  ∀ (s : State) (rest : List Event) (off : Fin 32) (v : Word),
    (s.events = .access (.read32 off) :: rest →
      ∀ w, (off, w) ∈ [(0x00, s.engine.cmd), (0x04, s.engine.status.word), (0x08, 0#32), (0x0C, 0#32), (0x10, 0#32),
          (0x14, 0#32), (0x18, s.engine.dout0), (0x1C, s.engine.dout1)] →
        step s = .next { s with events := rest, reply := .data w }) ∧
    (s.events = .access (.write32 off v) :: rest →
      (off = 0x00 → step s = commandWrite v { s with events := rest, reply := .written }) ∧
      ∀ e, (off, e) ∈ [(0x04, s.engine), (0x08, { s.engine with din0 := v }), (0x0C, { s.engine with din1 := v }),
          (0x10, { s.engine with key0 := v }), (0x14, { s.engine with key1 := v }), (0x18, s.engine),
          (0x1C, s.engine)] →
        step s = .next { engine := e, events := rest, reply := .written })

/-- 20_memory.md R64, 60_exceptions.md R256: an access of another width, or at an offset that is no multiple of 4, is
answered with a bus error and changes no engine state; at offsets 0x00 to 0x03 it is no command issue either. That the
machine goes on with the next event is the model's choice (log 3). -/
def Obligations.BusErrorChangesNoEngineState : Prop :=
  ∀ (s : State) (rest : List Event) (a : Access), s.events = .access a :: rest →
    ((∃ dir w off, a = .other dir w off) ∨ (∃ off : Fin 32, off.val % 4 ≠ 0 ∧ (a = .read32 off ∨ ∃ v, a = .write32 off v))) →
      step s = .next { s with events := rest, reply := .busError }

/-- 20_memory.md R60: an access at an absolute address inside the window at BASE joins the pending events at its offset,
and one outside it never reaches the engine. That the model then stops is its choice (log 5). -/
def Obligations.WindowDecodesItsOwnAddressesOnly : Prop :=
  ∀ (addr : Nat) (make : Fin 32 → Access) (s : State),
    (∀ off : Fin 32, addr = Config.fce.base + off.val →
      busRequest addr make s = .next { s with events := s.events ++ [.access (make off)] }) ∧
    (addr < Config.fce.base ∨ Config.fce.base + 32 ≤ addr → busRequest addr make s = .fault .outsideWindow) ∧
    Config.fce.base % 32 = 0

/-! ### The command word -/

/-- 30_encoding.md R90, R91: the fields of a decoded command are those of its word, as unsigned numbers. -/
def Obligations.DecodedFieldsAreTheWordsFields : Prop :=
  ∀ (v : Word) (i : Instr), decode v = some i →
    i.opcode.toNat = v.toNat % 256 ∧ v.toNat / 256 % 256 = 0 ∧ i.inLen.toNat = v.toNat / 65536 % 256 ∧
      i.outLen.toNat = v.toNat / 16777216

/-- 30_encoding.md R94: a command is defined exactly when `v[15:8] = 0x00` and `v[7:0]` is one of the five opcodes, and
`v[15:0]` alone selects it. -/
def Obligations.DecodeDefinedExactly : Prop :=
  (∀ v : Word, (decode v).isSome = true ↔
    v.extractLsb' 8 8 = 0x00#8 ∧ v.extractLsb' 0 8 ∈ [0x01#8, 0x02#8, 0x03#8, 0x04#8, 0x05#8]) ∧
  (∀ v w : Word, v.extractLsb' 0 16 = w.extractLsb' 0 16 →
    (decode v).map Instr.opcode = (decode w).map Instr.opcode)

/-- Every instruction, with each of the 65536 values of its two length fields, is decoded from its own word. -/
def Obligations.DecodeOfEncode : Prop := ∀ i : Instr, decode (encode i) = some i

/-- Every defined word is the word of the instruction it decodes to: no word has two readings, and none is lost. -/
def Obligations.EncodeOfDecode : Prop := ∀ (v : Word) (i : Instr), decode v = some i → encode i = v

/-- 30_encoding.md R92: the canonical words, and a KEYSET with another OUT_LEN; two illegal words. -/
def Obligations.CanonicalWordsDecode : Prop :=
  decode 0x00080001#32 = some (.keyset 8#8 0#8) ∧ decode 0x08080001#32 = some (.keyset 8#8 8#8) ∧
    decode 0x08080002#32 = some (.encrypt 8#8 8#8) ∧ decode 0x08080003#32 = some (.decrypt 8#8 8#8) ∧
    decode 0x08080004#32 = some (.permIp 8#8 8#8) ∧ decode 0x08080005#32 = some (.permFp 8#8 8#8) ∧
    decode 0x08080006#32 = none ∧ decode 0x08080102#32 = none

/-! ### Issuing a command -/

/-- A write of a defined word to CMD is the execution of its instruction, after the event is taken off the pending list
and the write acknowledged (60_exceptions.md R251; log 2). -/
def Obligations.StepRunsTheDecodedInstruction : Prop :=
  ∀ (s : State) (v : Word) (i : Instr) (rest : List Event),
    s.events = .access (.write32 0x00 v) :: rest → decode v = some i →
      step s = exec i { s with events := rest, reply := .written }

/-- 60_exceptions.md R251 on the raw word, for every one of the 2^32 words and every state: a write while BUSY sets
OVERRUN; otherwise the word is stored, OVERRUN cleared and the word validated, and the command is rejected, or started
with its operands latched (44_block_transform.md R212, 42_round_key_schedule.md R158). -/
def Obligations.CmdWriteFollowsTheIssueRule : Prop :=
  ∀ (s : State) (v : Word) (rest : List Event), s.events = .access (.write32 0x00 v) :: rest →
    ∃ e : Engine, step s = .next { engine := e, events := rest, reply := .written } ∧
      (s.engine.status.busy = true → e = { s.engine with status := { s.engine.status with overrun := true } }) ∧
      (s.engine.status.busy = false → ∀ c, validate Config.fce v s.engine.status.keyValid = some c →
        e = { s.engine with
              cmd := v, status := { s.engine.status with overrun := false, err := c.code, done := true } }) ∧
      (s.engine.status.busy = false → validate Config.fce v s.engine.status.keyValid = none → opcodeField v = 0x01#8 →
        e = { s.engine with
              cmd := v
              status := { busy := true, done := false, keyValid := false, overrun := false, err := 0#4 }
              x := keyWord Config.fce s.engine, key0 := 0#32, key1 := 0#32, op := 0x01#8, rnd := 0#5
              phase := .init }) ∧
      (s.engine.status.busy = false → validate Config.fce v s.engine.status.keyValid = none → opcodeField v ≠ 0x01#8 →
        e = { s.engine with
              cmd := v
              status := { s.engine.status with busy := true, done := false, overrun := false, err := 0#4 }
              x := inputWord Config.fce s.engine, din0 := 0#32, din1 := 0#32, op := opcodeField v, rnd := 0#5
              phase := if opcodeField v = 0x02#8 ∨ opcodeField v = 0x03#8 then .init else .perm })

/-- 60_exceptions.md R253: the code in ERR after an accepted CMD write is that of the first failing check, in the rule's
order, or 0; the checks read the bits of the written word as numbers. BUSY is then 1 exactly when the code is 0. -/
def Obligations.ValidationOrder : Prop :=
  ∀ (s : State) (v : Word) (rest : List Event),
    s.events = .access (.write32 0x00 v) :: rest → s.engine.status.busy = false →
      ∃ t, step s = .next t ∧ (t.engine.status.busy = true ↔ t.engine.status.err = 0#4) ∧
        t.engine.status.err.toNat =
          (if v.toNat / 256 % 256 ≠ 0 ∨ v.toNat % 256 ∉ [1, 2, 3, 4, 5] then 5
          else if v.toNat % 256 = 1 ∧ v.toNat / 65536 % 256 ≠ 8 then 3
          else if v.toNat % 256 ∈ [2, 3, 4, 5] ∧ v.toNat / 65536 % 256 ≠ 8 then 1
          else if v.toNat % 256 ∈ [2, 3, 4, 5] ∧ v.toNat / 16777216 ≠ 8 then 2
          else if v.toNat % 256 ∈ [2, 3] ∧ s.engine.status.keyValid = false then 4
          else 0)

/-- 60_exceptions.md R252: a rejection, of each instruction for each of its reasons and of every illegal word, writes
ERR and DONE; CMD holds the word and OVERRUN is 0 (R251), and nothing else of the machine changes. -/
def Obligations.RejectionIsPrecise : Prop :=
  ∀ (s : State) (n m : Byte), s.engine.status.busy = false →
    let rejected (w : Word) (c : BitVec 4) : Host.Outcome State Fault Refusal :=
      .next { s with engine := { s.engine with
        cmd := w, status := { s.engine.status with overrun := false, err := c, done := true } } }
    (n ≠ 8#8 → exec (.keyset n m) s = rejected (encode (.keyset n m)) 3#4) ∧
    (∀ i, i ∈ [Instr.encrypt n m, .decrypt n m, .permIp n m, .permFp n m] →
      (n ≠ 8#8 → exec i s = rejected (encode i) 1#4) ∧
      (n = 8#8 → m ≠ 8#8 → exec i s = rejected (encode i) 2#4)) ∧
    (∀ i, i ∈ [Instr.encrypt 8#8 8#8, .decrypt 8#8 8#8] →
      s.engine.status.keyValid = false → exec i s = rejected (encode i) 4#4) ∧
    (∀ v, decode v = none → commandWrite v s = rejected v 5#4)

/-- 60_exceptions.md R255: a CMD write while BUSY is 1 changes no register but STATUS.OVERRUN, which becomes 1, and the
running command completes normally: every run of the controller from there is the run without the write, but for that
bit. -/
def Obligations.WriteWhileBusyIsDropped : Prop :=
  ∀ s : State, s.engine.status.busy = true →
    let dropped : Engine := { s.engine with status := { s.engine.status with overrun := true } }
    (∀ (v : Word) (rest : List Event), s.events = .access (.write32 0x00 v) :: rest →
      step s = .next { engine := dropped, events := rest, reply := .written }) ∧
    (∀ i : Instr, exec i s = .next { s with engine := dropped }) ∧
    (∀ n : Nat, runController Config.fce n dropped =
      (runController Config.fce n s.engine).map fun e => { e with status := { e.status with overrun := true } })

/-- The frame of all five instructions (60_exceptions.md R251, R252): what issuing one leaves unchanged. The round keys,
the output, the halves, the pending events and the reply never change; KEY changes only when a KEYSET starts, DIN only
when a block command does, KEY_VALID only when a KEYSET starts; and while BUSY nothing but OVERRUN changes. -/
def Obligations.IssuingACommandFrame : Prop :=
  ∀ (i : Instr) (s t : State), exec i s = .next t →
    t.engine.rk = s.engine.rk ∧ t.engine.dout0 = s.engine.dout0 ∧ t.engine.dout1 = s.engine.dout1 ∧
    t.engine.l = s.engine.l ∧ t.engine.r = s.engine.r ∧ t.engine.c = s.engine.c ∧ t.engine.d = s.engine.d ∧
    t.events = s.events ∧ t.reply = s.reply ∧
    ((t.engine.key0 ≠ s.engine.key0 ∨ t.engine.key1 ≠ s.engine.key1 ∨
        t.engine.status.keyValid ≠ s.engine.status.keyValid) →
      (∃ m, i = .keyset 8#8 m) ∧ s.engine.status.busy = false ∧ t.engine.status.busy = true) ∧
    ((t.engine.din0 ≠ s.engine.din0 ∨ t.engine.din1 ≠ s.engine.din1) →
      (∀ n m, i ≠ .keyset n m) ∧ s.engine.status.busy = false ∧ t.engine.status.busy = true) ∧
    (t.engine.status.busy = false →
      t.engine.x = s.engine.x ∧ t.engine.phase = s.engine.phase ∧ t.engine.rnd = s.engine.rnd ∧
        t.engine.op = s.engine.op) ∧
    (s.engine.status.busy = true →
      t.engine = { s.engine with status := { s.engine.status with overrun := true } })

/-! ### The five commands, from issue to completion -/

/-- 42_round_key_schedule.md R158: KEYSET with IN_LEN 8 and any OUT_LEN is accepted in every state that is not busy. It
latches the key word KEY1 ‖ KEY0 (LE, 20_memory.md R66), clears KEY and KEY_VALID, and after its 18 controller steps RK is
the key's schedule, KEY_VALID and DONE are 1, and C, D and X are 0; nothing else has changed. -/
def Obligations.KeysetCompletes : Prop :=
  ∀ (s : State) (m : Byte), s.engine.status.busy = false →
    let accepted : Engine := { s.engine with
      cmd := m ++ 0x080001#24
      status := { busy := true, done := false, keyValid := false, overrun := false, err := 0#4 }
      x := s.engine.key1 ++ s.engine.key0, key0 := 0#32, key1 := 0#32, op := 0x01#8, rnd := 0#5, phase := .init }
    exec (.keyset 8#8 m) s = .next { s with engine := accepted } ∧
    runController Config.fce 18 accepted = some { accepted with
      status := { busy := false, done := true, keyValid := true, overrun := false, err := 0#4 }
      x := 0#64, c := 0#28, d := 0#28, rnd := 0#5, phase := .idle
      rk := keySchedule Config.fce (s.engine.key1 ++ s.engine.key0) }

/-- 44_block_transform.md R218: ENCRYPT with both lengths 8 is accepted in every state that is not busy and has a key. It
latches the block DIN1 ‖ DIN0 (LE), clears DIN, and after its 18 controller steps DOUT1 ‖ DOUT0 is the block encrypted
under RK, DONE is 1, and X, L, R are 0; nothing else has changed. -/
def Obligations.EncryptCompletes : Prop :=
  ∀ s : State, s.engine.status.busy = false → s.engine.status.keyValid = true →
    let accepted : Engine := { s.engine with
      cmd := 0x08080002#32
      status := { busy := true, done := false, keyValid := true, overrun := false, err := 0#4 }
      x := s.engine.din1 ++ s.engine.din0, din0 := 0#32, din1 := 0#32, op := 0x02#8, rnd := 0#5, phase := .init }
    let result := blockTransform Config.fce .enc s.engine.rk (s.engine.din1 ++ s.engine.din0)
    exec (.encrypt 8#8 8#8) s = .next { s with engine := accepted } ∧
    runController Config.fce 18 accepted = some { accepted with
      status := { busy := false, done := true, keyValid := true, overrun := false, err := 0#4 }
      x := 0#64, l := 0#32, r := 0#32, rnd := 0#5, phase := .idle
      dout0 := result.extractLsb' 0 32, dout1 := result.extractLsb' 32 32 }

/-- 44_block_transform.md R219: DECRYPT, as ENCRYPT with the round keys in the order 15..0. -/
def Obligations.DecryptCompletes : Prop :=
  ∀ s : State, s.engine.status.busy = false → s.engine.status.keyValid = true →
    let accepted : Engine := { s.engine with
      cmd := 0x08080003#32
      status := { busy := true, done := false, keyValid := true, overrun := false, err := 0#4 }
      x := s.engine.din1 ++ s.engine.din0, din0 := 0#32, din1 := 0#32, op := 0x03#8, rnd := 0#5, phase := .init }
    let result := blockTransform Config.fce .dec s.engine.rk (s.engine.din1 ++ s.engine.din0)
    exec (.decrypt 8#8 8#8) s = .next { s with engine := accepted } ∧
    runController Config.fce 18 accepted = some { accepted with
      status := { busy := false, done := true, keyValid := true, overrun := false, err := 0#4 }
      x := 0#64, l := 0#32, r := 0#32, rnd := 0#5, phase := .idle
      dout0 := result.extractLsb' 0 32, dout1 := result.extractLsb' 32 32 }

/-- 41_bit_permutation.md R127: PERM_IP with both lengths 8 is accepted in every state that is not busy, key or no key,
and its one step writes IP of the block to DOUT and clears X; nothing else has changed. -/
def Obligations.PermIpCompletes : Prop :=
  ∀ s : State, s.engine.status.busy = false →
    let accepted : Engine := { s.engine with
      cmd := 0x08080004#32
      status := { busy := true, done := false, keyValid := s.engine.status.keyValid, overrun := false, err := 0#4 }
      x := s.engine.din1 ++ s.engine.din0, din0 := 0#32, din1 := 0#32, op := 0x04#8, rnd := 0#5, phase := .perm }
    let result : Block := permute ipTable (s.engine.din1 ++ s.engine.din0 : Block)
    exec (.permIp 8#8 8#8) s = .next { s with engine := accepted } ∧
    controllerStep Config.fce accepted = some { accepted with
      status := { busy := false, done := true, keyValid := s.engine.status.keyValid, overrun := false, err := 0#4 }
      x := 0#64, phase := .idle, dout0 := result.extractLsb' 0 32, dout1 := result.extractLsb' 32 32 }

/-- 41_bit_permutation.md R128: PERM_FP, as PERM_IP with FP_ENGINE. -/
def Obligations.PermFpCompletes : Prop :=
  ∀ s : State, s.engine.status.busy = false →
    let accepted : Engine := { s.engine with
      cmd := 0x08080005#32
      status := { busy := true, done := false, keyValid := s.engine.status.keyValid, overrun := false, err := 0#4 }
      x := s.engine.din1 ++ s.engine.din0, din0 := 0#32, din1 := 0#32, op := 0x05#8, rnd := 0#5, phase := .perm }
    let result : Block := permute fpEngineTable (s.engine.din1 ++ s.engine.din0 : Block)
    exec (.permFp 8#8 8#8) s = .next { s with engine := accepted } ∧
    controllerStep Config.fce accepted = some { accepted with
      status := { busy := false, done := true, keyValid := s.engine.status.keyValid, overrun := false, err := 0#4 }
      x := 0#64, phase := .idle, dout0 := result.extractLsb' 0 32, dout1 := result.extractLsb' 32 32 }

/-- The headline at the host's side: a host that writes ENCRYPT's canonical word to an engine that is idle and has a key,
and then leaves it alone, finds after 19 steps of the machine (the write and 18 controller steps) the encrypted block in
DOUT1 ‖ DOUT0 and STATUS with DONE and KEY_VALID alone, RK is as it was, and DIN, X, L and R are 0
(44_block_transform.md R218, R222). -/
def Obligations.HostEncryptsOneBlock : Prop :=
  ∀ s : State, s.engine.status.busy = false → s.engine.status.keyValid = true →
    s.events = [.access (.write32 0x00 0x08080002#32)] →
      ∃ t : State, Host.Core.run Sys2Proof.core 19 s = .next t ∧
        t.engine.dout1 ++ t.engine.dout0 =
          blockTransform Config.fce .enc s.engine.rk (s.engine.din1 ++ s.engine.din0) ∧
        t.engine.status.word = 0x00000006#32 ∧ t.engine.cmd = 0x08080002#32 ∧ t.engine.rk = s.engine.rk ∧
        t.engine.din0 = 0#32 ∧ t.engine.din1 = 0#32 ∧ t.engine.x = 0#64 ∧ t.engine.l = 0#32 ∧ t.engine.r = 0#32 ∧
        t.events = []

/-! ### The controller -/

/-- 44_block_transform.md R213: the INIT step of ENCRYPT and DECRYPT. -/
def Obligations.CipherInitStep : Prop :=
  ∀ (cfg : Config) (e : Engine), e.phase = .init → (e.op = 0x02#8 ∨ e.op = 0x03#8) →
    controllerStep cfg e = some { e with
      l := (permute cfg.tables.ip e.x : Block).extractLsb' 32 32
      r := (permute cfg.tables.ip e.x : Block).extractLsb' 0 32, x := 0#64, phase := .round }

/-- 44_block_transform.md R214: the ROUND step of ENCRYPT (RK[r]) and DECRYPT (RK[15 - r]), both halves taken from before
the step. -/
def Obligations.CipherRoundStep : Prop :=
  ∀ (cfg : Config) (e : Engine) (r : Fin 16), e.phase = .round → e.rnd.toNat = r.val →
    let after (k : RoundKey) : Engine := { e with
      l := e.r, r := e.l ^^^ feistel cfg e.r k, rnd := BitVec.ofNat 5 (r.val + 1)
      phase := if r.val + 1 = 16 then .final else .round }
    (e.op = 0x02#8 → controllerStep cfg e = some (after e.rk[r.val])) ∧
    (e.op = 0x03#8 → controllerStep cfg e = some (after e.rk[15 - r.val]))

/-- 44_block_transform.md R217: the FINAL step of ENCRYPT and DECRYPT writes the bytes of `permute(FP, 64, L ‖ R)` to both
DOUT registers and clears L, R and RND. There is no exchange of the halves (R216). -/
def Obligations.CipherFinalStep : Prop :=
  ∀ (cfg : Config) (e : Engine), e.phase = .final → (e.op = 0x02#8 ∨ e.op = 0x03#8) →
    let o := store64 cfg.byteOrder (permute cfg.tables.fp (e.l ++ e.r : Block))
    controllerStep cfg e = some { e with
      dout0 := o[3] ++ o[2] ++ o[1] ++ o[0], dout1 := o[7] ++ o[6] ++ o[5] ++ o[4]
      l := 0#32, r := 0#32, rnd := 0#5, phase := .idle, status := { e.status with busy := false, done := true } }

/-- 42_round_key_schedule.md R158: the INIT, ROUND and FINAL steps of KEYSET; R12: `rol28` by 1 or 2. -/
def Obligations.KeysetSteps : Prop :=
  ∀ (cfg : Config) (e : Engine), e.op = 0x01#8 →
    (e.phase = .init →
      controllerStep cfg e = some { e with
        c := (permute cfg.tables.pc1 e.x : BitVec 56).extractLsb' 28 28
        d := (permute cfg.tables.pc1 e.x : BitVec 56).extractLsb' 0 28, x := 0#64, phase := .round }) ∧
    (∀ r : Fin 16, e.phase = .round → e.rnd.toNat = r.val →
      let c' := e.c.rotateLeft (cfg.tables.shift.getD r.val 0)
      let d' := e.d.rotateLeft (cfg.tables.shift.getD r.val 0)
      controllerStep cfg e = some { e with
        c := c', d := d', rk := e.rk.set r.val (permute cfg.tables.pc2 (c' ++ d' : BitVec 56))
        rnd := BitVec.ofNat 5 (r.val + 1), phase := if r.val + 1 = 16 then .final else .round }) ∧
    (e.phase = .final →
      controllerStep cfg e = some { e with
        c := 0#28, d := 0#28, rnd := 0#5, phase := .idle
        status := { e.status with keyValid := true, busy := false, done := true } }) ∧
    (∀ v : KeyHalf, rol28 1 v = v.extractLsb' 0 27 ++ v.extractLsb' 27 1 ∧
      rol28 2 v = v.extractLsb' 0 26 ++ v.extractLsb' 26 2)

/-- 44_block_transform.md R211: outside IDLE the controller has a step exactly in the rows of the table, which give the
next PHASE; in IDLE it holds everything (60_exceptions.md R264). In a pair with no row the model stops by name (log 6). -/
def Obligations.ControllerTable : Prop :=
  ∀ (s : State), s.events = [] →
    (s.engine.phase = .idle → step s = .next s) ∧
    (s.engine.phase = .init → s.engine.op ∈ [0x01#8, 0x02#8, 0x03#8] →
      ∃ t, step s = .next t ∧ t.engine.phase = .round) ∧
    (s.engine.phase = .round → s.engine.op ∈ [0x01#8, 0x02#8, 0x03#8] → s.engine.rnd.toNat ≤ 15 →
      ∃ t, step s = .next t ∧ t.engine.phase = if s.engine.rnd.toNat + 1 < 16 then .round else .final) ∧
    (s.engine.phase = .final → s.engine.op ∈ [0x01#8, 0x02#8, 0x03#8] →
      ∃ t, step s = .next t ∧ t.engine.phase = .idle) ∧
    (s.engine.phase = .perm → s.engine.op ∈ [0x04#8, 0x05#8] →
      ∃ t, step s = .next t ∧ t.engine.phase = .idle) ∧
    ((s.engine.phase ≠ .idle ∧ s.engine.phase ≠ .perm ∧ s.engine.op ∉ [0x01#8, 0x02#8, 0x03#8] ∨
        s.engine.phase = .round ∧ 15 < s.engine.rnd.toNat ∨
        s.engine.phase = .perm ∧ s.engine.op ∉ [0x04#8, 0x05#8]) →
      step s = .fault .noControllerRule)

/-- 44_block_transform.md R221: KEYSET, ENCRYPT and DECRYPT take exactly 18 controller steps, INIT, 16 ROUND and FINAL,
and PERM_IP and PERM_FP take 1, whatever the data. -/
def Obligations.StepCounts : Prop :=
  ∀ (cfg : Config) (e : Engine), e.rnd = 0#5 →
    (e.phase = .init → e.op ∈ [0x01#8, 0x02#8, 0x03#8] →
      ∀ n, n ≤ 18 → ∃ e', runController cfg n e = some e' ∧
        e'.phase = if n = 0 then .init else if n ≤ 16 then .round else if n = 17 then .final else .idle) ∧
    (e.phase = .perm → e.op ∈ [0x04#8, 0x05#8] →
      ∃ e', runController cfg 1 e = some e' ∧ e'.phase = .idle)

/-- 44_block_transform.md R220: for every configuration, the 18 steps of a block command compute BT of the latched block
under RK, write its bytes to DOUT, and leave every register they do not name as it was. -/
def Obligations.CipherStepsComputeBlockTransform : Prop :=
  ∀ (cfg : Config) (dir : KeyOrder) (e : Engine), e.phase = .init → e.op = dir.opcode → e.rnd = 0#5 →
    runController cfg 18 e = some { e with
      x := 0#64, l := 0#32, r := 0#32, rnd := 0#5, phase := .idle
      status := { e.status with busy := false, done := true }
      dout0 := lowLanes (store64 cfg.byteOrder (blockTransform cfg dir e.rk e.x))
      dout1 := highLanes (store64 cfg.byteOrder (blockTransform cfg dir e.rk e.x)) }

/-- 42_round_key_schedule.md R158 with R157: for every configuration, the 18 steps of KEYSET leave KS of the latched key
in RK, whatever RK held, and KEY_VALID 1. -/
def Obligations.KeysetStepsComputeKeySchedule : Prop :=
  ∀ (cfg : Config) (e : Engine), e.phase = .init → e.op = 0x01#8 → e.rnd = 0#5 →
    runController cfg 18 e = some { e with
      x := 0#64, c := 0#28, d := 0#28, rnd := 0#5, phase := .idle
      status := { e.status with busy := false, done := true, keyValid := true }
      rk := keySchedule cfg e.x }

/-- 44_block_transform.md R224: two engines that hold the same latched block, the same round keys and the same running
block command write the same output, whatever else they hold: ENCRYPT and DECRYPT in their 18 steps, and PERM_IP and
PERM_FP in their one, which does not read the round keys either. -/
def Obligations.OutputDependsOnBlockAndKeysAlone : Prop :=
  ∀ (cfg : Config) (e e' f f' : Engine), e'.phase = e.phase → e'.op = e.op → e'.x = e.x →
    (e.phase = .init → e.op ∈ [0x02#8, 0x03#8] → e.rnd = 0#5 → e'.rnd = 0#5 → e'.rk = e.rk →
      runController cfg 18 e = some f → runController cfg 18 e' = some f' →
        f'.dout0 = f.dout0 ∧ f'.dout1 = f.dout1) ∧
    (e.phase = .perm → e.op ∈ [0x04#8, 0x05#8] →
      runController cfg 1 e = some f → runController cfg 1 e' = some f' →
        f'.dout0 = f.dout0 ∧ f'.dout1 = f.dout1)

/-! ### The cipher -/

/-- 41_bit_permutation.md R121: `permute(T, n, v)` moves input position `T[i]` to output position i, for every table of m
entries in 1..n. -/
def Obligations.PermuteMovesPositions : Prop :=
  ∀ (n m : Nat) (t : List Nat) (v : BitVec n), t.length = m → (∀ p ∈ t, 1 ≤ p ∧ p ≤ n) →
    ∀ i (h : 1 ≤ i ∧ i ≤ t.length), (permute t v : BitVec m).getLsbD (m - i) = v.getLsbD (n - t[i - 1])

/-- 41_bit_permutation.md R126: IP after FP_ENGINE is swap32, so FP_ENGINE is not the inverse of IP; FIPS 46-3's IP^-1 is;
both tables fix 0 and all ones. -/
def Obligations.IpAndFpEngineRelations : Prop :=
  (∀ y : Block, (permute ipTable (permute fpEngineTable y : Block) : Block) = y.extractLsb' 0 32 ++ y.extractLsb' 32 32) ∧
  (∃ y : Block, (permute ipTable (permute fpEngineTable y : Block) : Block) ≠ y) ∧
  (∀ y : Block, (permute fipsInverseIpTable (permute ipTable y : Block) : Block) = y) ∧
  (∀ t ∈ [ipTable, fpEngineTable], (permute t 0#64 : Block) = 0#64 ∧
    (permute t 0xFFFFFFFFFFFFFFFF#64 : Block) = 0xFFFFFFFFFFFFFFFF#64)

/-- 41_bit_permutation.md R125: FP_ENGINE is FIPS 46-3's IP^-1 after an exchange of the halves, entry by entry and on
every word. -/
def Obligations.FpEngineIsSwappedInverseIp : Prop :=
  fpEngineTable = fipsInverseIpTable.map (fun t => if t ≤ 32 then t + 32 else t - 32) ∧
  ∀ w : Block, (permute fpEngineTable w : Block) = permute fipsInverseIpTable (swap32 w)

/-- 41_bit_permutation.md R122, R123: the tables of DES_STD are well formed, and IP, FP and P are bijections; an engine is
built from exactly the well-formed configurations (log 9). -/
def Obligations.TablesAreWellFormed : Prop :=
  desStd.wellFormed = true ∧ tableBijective 64 desStd.ip = true ∧ tableBijective 64 desStd.fp = true ∧
    tableBijective 32 desStd.p = true ∧
    (∀ cfg : Config, cfg.wellFormed = false → buildEngine cfg = none) ∧
    (∀ cfg : Config, cfg.wellFormed = true → buildEngine cfg = some State.reset.engine)

/-- 20_memory.md R66: over the lanes of a buffer (R65), the two conversions in both byte orders, that they undo each
other, and the forms the rule derives for LE and BE, where bswap32 reverses four bytes. -/
def Obligations.ByteAndWordConversions : Prop :=
  (∀ (lo hi : Word) (j : Fin 4), (lanes lo hi)[j.val] = lo.extractLsb' (8 * j.val) 8 ∧
    (lanes lo hi)[4 + j.val] = hi.extractLsb' (8 * j.val) 8) ∧
  (∀ (w : Block) (j : Fin 8), (store64 .le w)[j] = w.extractLsb' (8 * j.val) 8 ∧
    (store64 .be w)[j] = w.extractLsb' (56 - 8 * j.val) 8) ∧
  (∀ (order : ByteOrder) (w : Block), load64 order (store64 order w) = w) ∧
  (∀ (order : ByteOrder) (b : Vector Byte 8), store64 order (load64 order b) = b) ∧
  (∀ (v : Word) (j : Fin 4), (bswap32 v).extractLsb' (8 * j.val) 8 = v.extractLsb' (24 - 8 * j.val) 8) ∧
  (∀ lo hi : Word, load64 .le (lanes lo hi) = hi ++ lo ∧
    load64 .be (lanes lo hi) = bswap32 lo ++ bswap32 hi) ∧
  (∀ w : Block, lowLanes (store64 .le w) = w.extractLsb' 0 32 ∧ highLanes (store64 .le w) = w.extractLsb' 32 32 ∧
    lowLanes (store64 .be w) = bswap32 (w.extractLsb' 32 32) ∧
    highLanes (store64 .be w) = bswap32 (w.extractLsb' 0 32))

/-- 43_feistel_function.md R182 to R188: F is P applied to eight lanes, lane j + 1 being the entry of S_(j+1) at bits
[47-6j:42-6j] of `E(r) ⊕ k` and standing at bits [31-4j:28-4j]; for DES_STD the entry is that of the printed row
2 g[5] + g[0] and column g[4:1]. -/
def Obligations.FeistelFunctionByLanes : Prop :=
  (∀ (cfg : Config) (r : HalfBlock) (k : RoundKey), ∃ s : HalfBlock, feistel cfg r k = permute cfg.tables.p s ∧
    ∀ j : Fin 8, s.extractLsb' (28 - 4 * j.val) 4 =
      BitVec.ofNat 4 (cfg.tables.sboxes[j].getD
        (((permute cfg.tables.e r : BitVec 48) ^^^ k).extractLsb' (42 - 6 * j.val) 6).toNat 0)) ∧
  (∀ (j : Fin 8) (row : Fin 4) (col : Fin 16),
    (desStd.sboxes[j].getD (32 * (row.val / 2) + 2 * col.val + row.val % 2) 0) =
      (#v[s1Rows, s2Rows, s3Rows, s4Rows, s5Rows, s6Rows, s7Rows, s8Rows][j].getD row.val []).getD col.val 16)

/-- 43_feistel_function.md R190: complementing both inputs of F changes nothing, since E maps ~r to ~E(r). -/
def Obligations.FeistelFunctionOfComplements : Prop :=
  ∀ (r : HalfBlock) (k : RoundKey), feistel Config.fce (~~~r) (~~~k) = feistel Config.fce r k

/-- 42_round_key_schedule.md R154: the rotations are cumulative. The halves of round key r are those of PC1 rotated by
SHIFT[1] + ... + SHIFT[r+1] positions, each on its own, for every rotation schedule. -/
def Obligations.RotationsAreCumulative : Prop :=
  ∀ (cfg : Config) (k : Block) (r : Nat), r < 16 → cfg.tables.shift.length = 16 →
    scheduledKey cfg k r = permute cfg.tables.pc2
      ((splitKey cfg k).1.rotateLeft ((cfg.tables.shift.take (r + 1)).sum) ++
        (splitKey cfg k).2.rotateLeft ((cfg.tables.shift.take (r + 1)).sum) : BitVec 56)

/-- 42_round_key_schedule.md R160: key bits 0, 8, ..., 56 have no effect on the round keys. -/
def Obligations.KeyParityIsIgnored : Prop :=
  ∀ k k' : Block, (∀ i, i < 64 → i % 8 ≠ 0 → k.getLsbD i = k'.getLsbD i) →
    keySchedule Config.fce k = keySchedule Config.fce k'

/-- 42_round_key_schedule.md R161: after the 16th rotation C and D have their values after PC1 again, for every key; and
four keys give sixteen equal round keys, so for them ENCRYPT and DECRYPT compute the same function. -/
def Obligations.HalvesReturnAndWeakKeys : Prop :=
  (∀ k : Block, keyHalves Config.fce k 16 = keyHalves Config.fce k 0) ∧
  (∀ k ∈ [0x0101010101010101#64, 0xFEFEFEFEFEFEFEFE#64, 0x1F1F1F1F0E0E0E0E#64, 0xE0E0E0E0F1F1F1F1#64],
    (∀ i j : Fin 16, (keySchedule Config.fce k)[i] = (keySchedule Config.fce k)[j]) ∧
    ∀ w : Block, blockTransform Config.fce .enc (keySchedule Config.fce k) w =
      blockTransform Config.fce .dec (keySchedule Config.fce k) w)

/-- 44_block_transform.md R225: for every configuration whose IP and FP satisfy the premise, and every round-key file,
decryption undoes encryption and encryption undoes decryption; DES_STD satisfies the premise, so with it both hold. -/
def Obligations.DecryptUndoesEncrypt : Prop :=
  (∀ cfg : Config, (∀ y : Block, initialPermutation cfg (finalPermutation cfg y) = swap32 y) →
    ∀ (rk : KeyFile) (w : Block),
      blockTransform cfg .dec rk (blockTransform cfg .enc rk w) = w ∧
      blockTransform cfg .enc rk (blockTransform cfg .dec rk w) = w) ∧
  (∀ y : Block, initialPermutation Config.fce (finalPermutation Config.fce y) = swap32 y) ∧
  ∀ (rk : KeyFile) (w : Block),
    blockTransform Config.fce .dec rk (blockTransform Config.fce .enc rk w) = w ∧
    blockTransform Config.fce .enc rk (blockTransform Config.fce .dec rk w) = w

/-- 44_block_transform.md R225: the complement property of DES_STD, over every key and every block. -/
def Obligations.ComplementProperty : Prop :=
  ∀ k w : Block, blockTransform Config.fce .enc (keySchedule Config.fce (~~~k)) (~~~w) =
    ~~~(blockTransform Config.fce .enc (keySchedule Config.fce k) w)

/-- 44_block_transform.md R225: where the round keys read the same in both orders, encryption and decryption are one
function, so encrypting twice returns the block. -/
def Obligations.PalindromicKeysAreInvolutions : Prop :=
  ∀ (cfg : Config) (rk : KeyFile), (∀ r : Fin 16, rk[r.val] = rk[15 - r.val]) →
    (∀ w : Block, blockTransform cfg .enc rk w = blockTransform cfg .dec rk w) ∧
    ((∀ y : Block, initialPermutation cfg (finalPermutation cfg y) = swap32 y) →
      ∀ w : Block, blockTransform cfg .enc rk (blockTransform cfg .enc rk w) = w)

/-! ### Invariants and rules of the whole machine -/

/-- The invariant holds right after reset. -/
def Obligations.InvariantHoldsAtReset : Prop :=
  State.reset.Inv ∧ State.reset.engine.KeysAgree Config.fce

/-- 10_state.md R51: the invariant, which implies each clause of the rule, is kept by every step from every state that
satisfies it, whatever events are pending. -/
def Obligations.EveryStepKeepsTheInvariant : Prop :=
  (∀ s : State, s.Inv →
    (s.engine.status.busy = true ↔ s.engine.phase ≠ .idle) ∧
    ¬(s.engine.status.busy = true ∧ s.engine.status.done = true) ∧
    (s.engine.phase = .idle → s.engine.rnd = 0#5 ∧ s.engine.x = 0#64 ∧ s.engine.l = 0#32 ∧ s.engine.r = 0#32 ∧
      s.engine.c = 0#28 ∧ s.engine.d = 0#28) ∧
    (s.engine.phase = .round → s.engine.rnd.toNat ≤ 15) ∧
    (s.engine.phase = .final → s.engine.op ∈ [0x01#8, 0x02#8, 0x03#8] → s.engine.rnd.toNat = 16) ∧
    (s.engine.status.err ≠ 0#4 → s.engine.status.busy = false)) ∧
  (∀ s t : State, s.Inv → step s = .next t → t.Inv)

/-- 10_state.md R37: KEY_VALID = 1 means RK is the complete schedule of one key word. With what KEYSET's steps have done so
far, this is kept by every step from every state that satisfies it and the invariant. -/
def Obligations.EveryStepKeepsKeyValidTruthful : Prop :=
  ∀ s t : State, s.Inv → s.engine.KeysAgree Config.fce → step s = .next t → t.engine.KeysAgree Config.fce

/-- 44_block_transform.md R211, R223: from every state of the invariant a step answers a next state, whatever events are
pending: no command, accepted or rejected, ends in a fault or a refusal. That an access which gets a bus error answers a
next state too is the model's choice (log 3). -/
def Obligations.NoStepStopsUnderTheInvariant : Prop :=
  ∀ s : State, s.Inv → ∃ t, step s = .next t

/-- 42_round_key_schedule.md R159, 10_state.md R40: a step that changes RK is a ROUND step of KEYSET, which changes only
the slot RND, or a reset. -/
def Obligations.RoundKeysWrittenByKeysetAndResetAlone : Prop :=
  ∀ s t : State, step s = .next t → t.engine.rk ≠ s.engine.rk →
    (∃ rest, s.events = .reset :: rest) ∨
    ((s.events = [] ∨ ∃ rest, s.events = .controller :: rest) ∧ s.engine.phase = .round ∧ s.engine.op = 0x01#8 ∧
      ∀ i : Fin 16, i.val ≠ s.engine.rnd.toNat → t.engine.rk[i] = s.engine.rk[i])

/-- 10_state.md R43: a step that changes DOUT0 or DOUT1 is the final step of a block command, which finishes it, or a
reset. A rejected command and a KEYSET never change them. -/
def Obligations.OutputWrittenByFinalStepsAndResetAlone : Prop :=
  ∀ s t : State, step s = .next t →
    (t.engine.dout0 ≠ s.engine.dout0 ∨ t.engine.dout1 ≠ s.engine.dout1) →
    (∃ rest, s.events = .reset :: rest) ∨
    ((s.events = [] ∨ ∃ rest, s.events = .controller :: rest) ∧
      (s.engine.phase = .final ∧ s.engine.op ∈ [0x02#8, 0x03#8] ∨
        s.engine.phase = .perm ∧ s.engine.op ∈ [0x04#8, 0x05#8]) ∧
      t.engine.phase = .idle ∧ t.engine.status.busy = false ∧ t.engine.status.done = true)

/-- 10_state.md R33, R39, 60_exceptions.md R254: CMD and ERR are written only by an accepted CMD write and by reset; no
controller step, no other access and no dropped write changes either. -/
def Obligations.CmdAndErrWrittenAtAcceptanceAlone : Prop :=
  ∀ s t : State, step s = .next t →
    (t.engine.cmd ≠ s.engine.cmd ∨ t.engine.status.err ≠ s.engine.status.err) →
    (∃ rest, s.events = .reset :: rest) ∨
    (∃ v rest, s.events = .access (.write32 0x00 v) :: rest ∧ s.engine.status.busy = false ∧ t.engine.cmd = v)

/-- 60_exceptions.md R255, 70_reset_and_hazards.md R286: no host access disturbs a running command. Whatever is read or
written while BUSY is 1, everything the command computes with and everything it has written stays as it was, and so do
CMD and every flag but OVERRUN. -/
def Obligations.RunningCommandIsUndisturbed : Prop :=
  ∀ (s t : State) (a : Access) (rest : List Event), s.engine.status.busy = true → s.events = .access a :: rest →
    step s = .next t →
      Engine.sameCommand s.engine t.engine ∧ t.engine.cmd = s.engine.cmd ∧
      (t.engine.status = s.engine.status ∨ t.engine.status = { s.engine.status with overrun := true }) ∧
      t.events = rest

/-- 10_state.md R40, R42, 60_exceptions.md R259: no access reads the secrets. Two machines that look alike to reads, and
differ in any way in RK, KEY, DIN, X, L, R, C and D, answer every access alike and still look alike after it. -/
def Obligations.ReadsRevealNoKeyMaterial : Prop :=
  ∀ (s s' t t' : State) (a : Access) (rest rest' : List Event),
    Engine.sameReads s.engine s'.engine → s.events = .access a :: rest → s'.events = .access a :: rest' →
    step s = .next t → step s' = .next t' →
      t.reply = t'.reply ∧ Engine.sameReads t.engine t'.engine

/-- 70_reset_and_hazards.md R289: a host that reads STATUS right after the write that starts a command, with no controller
step between, sees BUSY = 1 and not DONE. -/
def Obligations.BusyIsVisibleAfterTheCommand : Prop :=
  ∀ (s : State) (v : Word), s.engine.status.busy = false → validate Config.fce v s.engine.status.keyValid = none →
    s.events = [.access (.write32 0x00 v), .access (.read32 0x04)] →
      ∃ (t : State) (w : Word), Host.Core.run Sys2Proof.core 2 s = .next t ∧ t.reply = .data w ∧
        w.getLsbD 0 = true ∧ w.getLsbD 1 = false

/-- 30_encoding.md R97: `wait` terminates, however many controller turns pass between its reads. From every state of the
invariant, and for every list of gaps, it ends with BUSY = 0 in the value it read, within 37 steps of the machine beyond
the reads and the turns of the list. That one turn passes between two reads once the list is used up, and that nothing
but controller turns happens between two reads of one `wait`, is the model's choice (log 7). -/
def Obligations.WaitTerminates : Prop :=
  ∀ (s : State) (gaps : List Nat) (rest : List Event), s.Inv → s.events = .wait gaps :: rest →
    ∃ (n : Nat) (t : State), n ≤ gaps.length + gaps.sum + 37 ∧ Host.Core.run Sys2Proof.core n s = .next t ∧ t.events = rest ∧
      t.engine.status.busy = false ∧ t.reply = .data t.engine.status.word

/-- 30_encoding.md R97: the expansions of the pseudo-instructions. The length forms are the words
`(o << 24) | (i << 16) | opcode`, which are the encodings of the instructions. `setkey` and `setdin` write the values
that leave the given word to be loaded, with LE its low and its high half. `getdout` reads DOUT0, then DOUT1, and its
result word is `load64` of the eight bytes read: with LE `DOUT1 ‖ DOUT0`, and in either byte order the word whose bytes
the engine wrote there. -/
def Obligations.PseudoInstructionExpansions : Prop :=
  ∀ (cfg : Config) (i o : Byte) (k : Block),
    Pseudo.expand cfg .keyset = [.cmd 0x00080001#32] ∧ Pseudo.expand cfg .encrypt = [.cmd 0x08080002#32] ∧
    Pseudo.expand cfg .decrypt = [.cmd 0x08080003#32] ∧ Pseudo.expand cfg .permIp = [.cmd 0x08080004#32] ∧
    Pseudo.expand cfg .permFp = [.cmd 0x08080005#32] ∧
    Pseudo.expand cfg (.keysetLen i) = [.cmd (encode (.keyset i 0#8))] ∧
    Pseudo.expand cfg (.encryptLen i o) = [.cmd (encode (.encrypt i o))] ∧
    Pseudo.expand cfg (.decryptLen i o) = [.cmd (encode (.decrypt i o))] ∧
    Pseudo.expand cfg (.permIpLen i o) = [.cmd (encode (.permIp i o))] ∧
    Pseudo.expand cfg (.permFpLen i o) = [.cmd (encode (.permFp i o))] ∧
    (∃ a b, Pseudo.expand cfg (.setkey k) = [.wr .key0 a, .wr .key1 b] ∧ load64 cfg.byteOrder (lanes a b) = k ∧
      (cfg.byteOrder = .le → a = k.extractLsb' 0 32 ∧ b = k.extractLsb' 32 32)) ∧
    (∃ a b, Pseudo.expand cfg (.setdin k) = [.wr .din0 a, .wr .din1 b] ∧ load64 cfg.byteOrder (lanes a b) = k ∧
      (cfg.byteOrder = .le → a = k.extractLsb' 0 32 ∧ b = k.extractLsb' 32 32)) ∧
    Pseudo.expand cfg .getdout = [.rd .dout0, .rd .dout1] ∧
    (Pseudo.expand cfg .getdout).map Stmt.event = [.access (.read32 0x18), .access (.read32 0x1C)] ∧
    (∀ a b : Word, outputWord cfg a b = load64 cfg.byteOrder (lanes a b) ∧
      (cfg.byteOrder = .le → outputWord cfg a b = b ++ a)) ∧
    (∀ (w : Block) (e : Engine), outputWord cfg (writeOutput cfg w e).dout0 (writeOutput cfg w e).dout1 = w)
end

