-- ==== Sys2Proof/Laws/State.lean ====
section
/-! SUPPORT. Field lemmas: what each update of STATUS and of the engine does to each field it touches and to those
beside it. All hold by rfl; later proofs cite them instead of unfolding a record update. -/

namespace Sys2Proof.Machine

open Sys2Proof

/-! ### This hardware's configuration -/

@[simp] theorem fce_byteOrder : Config.fce.byteOrder = .le := rfl
@[simp] theorem fce_keyBytes : Config.fce.keyBytes = 8 := rfl
theorem fce_tables : Config.fce.tables = desStd := rfl
theorem desStd_ip : desStd.ip = ipTable := rfl
theorem desStd_fp : desStd.fp = fpEngineTable := rfl
theorem desStd_e : desStd.e = eTable := rfl
theorem desStd_p : desStd.p = pTable := rfl
theorem desStd_pc1 : desStd.pc1 = pc1Table := rfl
theorem desStd_pc2 : desStd.pc2 = pc2Table := rfl
theorem desStd_shift : desStd.shift = shiftTable := rfl

/-! ### The codes of STATUS.ERR -/

@[simp] theorem ErrorCode.code_input : ErrorCode.invalidArgumentInput.code = 1#4 := rfl
@[simp] theorem ErrorCode.code_output : ErrorCode.invalidArgumentOutput.code = 2#4 := rfl
@[simp] theorem ErrorCode.code_keyLength : ErrorCode.invalidKeyLength.code = 3#4 := rfl
@[simp] theorem ErrorCode.code_noKey : ErrorCode.noKey.code = 4#4 := rfl
@[simp] theorem ErrorCode.code_illegal : ErrorCode.illegalCommand.code = 5#4 := rfl

/-- Every code is one of 1 to 5 (60_exceptions.md R250). -/
theorem ErrorCode.code_range (c : ErrorCode) : c.code ≠ 0#4 ∧ c.code.toNat ≤ 5 := by cases c <;> decide

/-! ### STATUS updates -/

@[simp] theorem Status.dropped_busy (st : Status) : (st.dropped).busy = st.busy := rfl
@[simp] theorem Status.dropped_done (st : Status) : (st.dropped).done = st.done := rfl
@[simp] theorem Status.dropped_keyValid (st : Status) : (st.dropped).keyValid = st.keyValid := rfl
@[simp] theorem Status.dropped_overrun (st : Status) : (st.dropped).overrun = true := rfl
@[simp] theorem Status.dropped_err (st : Status) : (st.dropped).err = st.err := rfl

@[simp] theorem Status.accepted_busy (st : Status) : (st.accepted).busy = st.busy := rfl
@[simp] theorem Status.accepted_done (st : Status) : (st.accepted).done = st.done := rfl
@[simp] theorem Status.accepted_keyValid (st : Status) : (st.accepted).keyValid = st.keyValid := rfl
@[simp] theorem Status.accepted_overrun (st : Status) : (st.accepted).overrun = false := rfl
@[simp] theorem Status.accepted_err (st : Status) : (st.accepted).err = st.err := rfl

@[simp] theorem Status.rejected_busy (c : ErrorCode) (st : Status) : (st.rejected c).busy = st.busy := rfl
@[simp] theorem Status.rejected_done (c : ErrorCode) (st : Status) : (st.rejected c).done = true := rfl
@[simp] theorem Status.rejected_keyValid (c : ErrorCode) (st : Status) : (st.rejected c).keyValid = st.keyValid := rfl
@[simp] theorem Status.rejected_overrun (c : ErrorCode) (st : Status) : (st.rejected c).overrun = st.overrun := rfl
@[simp] theorem Status.rejected_err (c : ErrorCode) (st : Status) : (st.rejected c).err = c.code := rfl

@[simp] theorem Status.started_busy (st : Status) : (st.started).busy = true := rfl
@[simp] theorem Status.started_done (st : Status) : (st.started).done = false := rfl
@[simp] theorem Status.started_keyValid (st : Status) : (st.started).keyValid = st.keyValid := rfl
@[simp] theorem Status.started_overrun (st : Status) : (st.started).overrun = st.overrun := rfl
@[simp] theorem Status.started_err (st : Status) : (st.started).err = 0#4 := rfl

@[simp] theorem Status.finished_busy (st : Status) : (st.finished).busy = false := rfl
@[simp] theorem Status.finished_done (st : Status) : (st.finished).done = true := rfl
@[simp] theorem Status.finished_keyValid (st : Status) : (st.finished).keyValid = st.keyValid := rfl
@[simp] theorem Status.finished_overrun (st : Status) : (st.finished).overrun = st.overrun := rfl
@[simp] theorem Status.finished_err (st : Status) : (st.finished).err = st.err := rfl

@[simp] theorem Status.setKeyValid_busy (v : Bool) (st : Status) : (st.setKeyValid v).busy = st.busy := rfl
@[simp] theorem Status.setKeyValid_done (v : Bool) (st : Status) : (st.setKeyValid v).done = st.done := rfl
@[simp] theorem Status.setKeyValid_keyValid (v : Bool) (st : Status) : (st.setKeyValid v).keyValid = v := rfl
@[simp] theorem Status.setKeyValid_overrun (v : Bool) (st : Status) : (st.setKeyValid v).overrun = st.overrun := rfl
@[simp] theorem Status.setKeyValid_err (v : Bool) (st : Status) : (st.setKeyValid v).err = st.err := rfl

/-! ### Engine updates -/

@[simp] theorem raiseError_cmd (c : ErrorCode) (e : Engine) :
    (raiseError c e).cmd = e.cmd := rfl
@[simp] theorem raiseError_status (c : ErrorCode) (e : Engine) :
    (raiseError c e).status = e.status.rejected c := rfl
@[simp] theorem raiseError_din0 (c : ErrorCode) (e : Engine) :
    (raiseError c e).din0 = e.din0 := rfl
@[simp] theorem raiseError_din1 (c : ErrorCode) (e : Engine) :
    (raiseError c e).din1 = e.din1 := rfl
@[simp] theorem raiseError_key0 (c : ErrorCode) (e : Engine) :
    (raiseError c e).key0 = e.key0 := rfl
@[simp] theorem raiseError_key1 (c : ErrorCode) (e : Engine) :
    (raiseError c e).key1 = e.key1 := rfl
@[simp] theorem raiseError_dout0 (c : ErrorCode) (e : Engine) :
    (raiseError c e).dout0 = e.dout0 := rfl
@[simp] theorem raiseError_dout1 (c : ErrorCode) (e : Engine) :
    (raiseError c e).dout1 = e.dout1 := rfl
@[simp] theorem raiseError_rk (c : ErrorCode) (e : Engine) :
    (raiseError c e).rk = e.rk := rfl
@[simp] theorem raiseError_x (c : ErrorCode) (e : Engine) :
    (raiseError c e).x = e.x := rfl
@[simp] theorem raiseError_l (c : ErrorCode) (e : Engine) :
    (raiseError c e).l = e.l := rfl
@[simp] theorem raiseError_r (c : ErrorCode) (e : Engine) :
    (raiseError c e).r = e.r := rfl
@[simp] theorem raiseError_c (c : ErrorCode) (e : Engine) :
    (raiseError c e).c = e.c := rfl
@[simp] theorem raiseError_d (c : ErrorCode) (e : Engine) :
    (raiseError c e).d = e.d := rfl
@[simp] theorem raiseError_phase (c : ErrorCode) (e : Engine) :
    (raiseError c e).phase = e.phase := rfl
@[simp] theorem raiseError_rnd (c : ErrorCode) (e : Engine) :
    (raiseError c e).rnd = e.rnd := rfl
@[simp] theorem raiseError_op (c : ErrorCode) (e : Engine) :
    (raiseError c e).op = e.op := rfl

@[simp] theorem latchBlock_cmd (cfg : Config) (op : Byte) (ph : Phase) (e : Engine) :
    (latchBlock cfg op ph e).cmd = e.cmd := rfl
@[simp] theorem latchBlock_status (cfg : Config) (op : Byte) (ph : Phase) (e : Engine) :
    (latchBlock cfg op ph e).status = e.status := rfl
@[simp] theorem latchBlock_din0 (cfg : Config) (op : Byte) (ph : Phase) (e : Engine) :
    (latchBlock cfg op ph e).din0 = 0#32 := rfl
@[simp] theorem latchBlock_din1 (cfg : Config) (op : Byte) (ph : Phase) (e : Engine) :
    (latchBlock cfg op ph e).din1 = 0#32 := rfl
@[simp] theorem latchBlock_key0 (cfg : Config) (op : Byte) (ph : Phase) (e : Engine) :
    (latchBlock cfg op ph e).key0 = e.key0 := rfl
@[simp] theorem latchBlock_key1 (cfg : Config) (op : Byte) (ph : Phase) (e : Engine) :
    (latchBlock cfg op ph e).key1 = e.key1 := rfl
@[simp] theorem latchBlock_dout0 (cfg : Config) (op : Byte) (ph : Phase) (e : Engine) :
    (latchBlock cfg op ph e).dout0 = e.dout0 := rfl
@[simp] theorem latchBlock_dout1 (cfg : Config) (op : Byte) (ph : Phase) (e : Engine) :
    (latchBlock cfg op ph e).dout1 = e.dout1 := rfl
@[simp] theorem latchBlock_rk (cfg : Config) (op : Byte) (ph : Phase) (e : Engine) :
    (latchBlock cfg op ph e).rk = e.rk := rfl
@[simp] theorem latchBlock_x (cfg : Config) (op : Byte) (ph : Phase) (e : Engine) :
    (latchBlock cfg op ph e).x = inputWord cfg e := rfl
@[simp] theorem latchBlock_l (cfg : Config) (op : Byte) (ph : Phase) (e : Engine) :
    (latchBlock cfg op ph e).l = e.l := rfl
@[simp] theorem latchBlock_r (cfg : Config) (op : Byte) (ph : Phase) (e : Engine) :
    (latchBlock cfg op ph e).r = e.r := rfl
@[simp] theorem latchBlock_c (cfg : Config) (op : Byte) (ph : Phase) (e : Engine) :
    (latchBlock cfg op ph e).c = e.c := rfl
@[simp] theorem latchBlock_d (cfg : Config) (op : Byte) (ph : Phase) (e : Engine) :
    (latchBlock cfg op ph e).d = e.d := rfl
@[simp] theorem latchBlock_phase (cfg : Config) (op : Byte) (ph : Phase) (e : Engine) :
    (latchBlock cfg op ph e).phase = ph := rfl
@[simp] theorem latchBlock_rnd (cfg : Config) (op : Byte) (ph : Phase) (e : Engine) :
    (latchBlock cfg op ph e).rnd = 0#5 := rfl
@[simp] theorem latchBlock_op (cfg : Config) (op : Byte) (ph : Phase) (e : Engine) :
    (latchBlock cfg op ph e).op = op := rfl

@[simp] theorem latchKey_cmd (cfg : Config) (e : Engine) :
    (latchKey cfg e).cmd = e.cmd := rfl
@[simp] theorem latchKey_status (cfg : Config) (e : Engine) :
    (latchKey cfg e).status = e.status.setKeyValid false := rfl
@[simp] theorem latchKey_din0 (cfg : Config) (e : Engine) :
    (latchKey cfg e).din0 = e.din0 := rfl
@[simp] theorem latchKey_din1 (cfg : Config) (e : Engine) :
    (latchKey cfg e).din1 = e.din1 := rfl
@[simp] theorem latchKey_key0 (cfg : Config) (e : Engine) :
    (latchKey cfg e).key0 = 0#32 := rfl
@[simp] theorem latchKey_key1 (cfg : Config) (e : Engine) :
    (latchKey cfg e).key1 = 0#32 := rfl
@[simp] theorem latchKey_dout0 (cfg : Config) (e : Engine) :
    (latchKey cfg e).dout0 = e.dout0 := rfl
@[simp] theorem latchKey_dout1 (cfg : Config) (e : Engine) :
    (latchKey cfg e).dout1 = e.dout1 := rfl
@[simp] theorem latchKey_rk (cfg : Config) (e : Engine) :
    (latchKey cfg e).rk = e.rk := rfl
@[simp] theorem latchKey_x (cfg : Config) (e : Engine) :
    (latchKey cfg e).x = keyWord cfg e := rfl
@[simp] theorem latchKey_l (cfg : Config) (e : Engine) :
    (latchKey cfg e).l = e.l := rfl
@[simp] theorem latchKey_r (cfg : Config) (e : Engine) :
    (latchKey cfg e).r = e.r := rfl
@[simp] theorem latchKey_c (cfg : Config) (e : Engine) :
    (latchKey cfg e).c = e.c := rfl
@[simp] theorem latchKey_d (cfg : Config) (e : Engine) :
    (latchKey cfg e).d = e.d := rfl
@[simp] theorem latchKey_phase (cfg : Config) (e : Engine) :
    (latchKey cfg e).phase = .init := rfl
@[simp] theorem latchKey_rnd (cfg : Config) (e : Engine) :
    (latchKey cfg e).rnd = 0#5 := rfl
@[simp] theorem latchKey_op (cfg : Config) (e : Engine) :
    (latchKey cfg e).op = opKeyset := rfl

@[simp] theorem writeOutput_cmd (cfg : Config) (w : Block) (e : Engine) :
    (writeOutput cfg w e).cmd = e.cmd := rfl
@[simp] theorem writeOutput_status (cfg : Config) (w : Block) (e : Engine) :
    (writeOutput cfg w e).status = e.status := rfl
@[simp] theorem writeOutput_din0 (cfg : Config) (w : Block) (e : Engine) :
    (writeOutput cfg w e).din0 = e.din0 := rfl
@[simp] theorem writeOutput_din1 (cfg : Config) (w : Block) (e : Engine) :
    (writeOutput cfg w e).din1 = e.din1 := rfl
@[simp] theorem writeOutput_key0 (cfg : Config) (w : Block) (e : Engine) :
    (writeOutput cfg w e).key0 = e.key0 := rfl
@[simp] theorem writeOutput_key1 (cfg : Config) (w : Block) (e : Engine) :
    (writeOutput cfg w e).key1 = e.key1 := rfl
@[simp] theorem writeOutput_dout0 (cfg : Config) (w : Block) (e : Engine) :
    (writeOutput cfg w e).dout0 = lowLanes (store64 cfg.byteOrder w) := rfl
@[simp] theorem writeOutput_dout1 (cfg : Config) (w : Block) (e : Engine) :
    (writeOutput cfg w e).dout1 = highLanes (store64 cfg.byteOrder w) := rfl
@[simp] theorem writeOutput_rk (cfg : Config) (w : Block) (e : Engine) :
    (writeOutput cfg w e).rk = e.rk := rfl
@[simp] theorem writeOutput_x (cfg : Config) (w : Block) (e : Engine) :
    (writeOutput cfg w e).x = e.x := rfl
@[simp] theorem writeOutput_l (cfg : Config) (w : Block) (e : Engine) :
    (writeOutput cfg w e).l = e.l := rfl
@[simp] theorem writeOutput_r (cfg : Config) (w : Block) (e : Engine) :
    (writeOutput cfg w e).r = e.r := rfl
@[simp] theorem writeOutput_c (cfg : Config) (w : Block) (e : Engine) :
    (writeOutput cfg w e).c = e.c := rfl
@[simp] theorem writeOutput_d (cfg : Config) (w : Block) (e : Engine) :
    (writeOutput cfg w e).d = e.d := rfl
@[simp] theorem writeOutput_phase (cfg : Config) (w : Block) (e : Engine) :
    (writeOutput cfg w e).phase = e.phase := rfl
@[simp] theorem writeOutput_rnd (cfg : Config) (w : Block) (e : Engine) :
    (writeOutput cfg w e).rnd = e.rnd := rfl
@[simp] theorem writeOutput_op (cfg : Config) (w : Block) (e : Engine) :
    (writeOutput cfg w e).op = e.op := rfl

@[simp] theorem advanceRound_cmd (k : Fin 16) (e : Engine) :
    (advanceRound k e).cmd = e.cmd := rfl
@[simp] theorem advanceRound_status (k : Fin 16) (e : Engine) :
    (advanceRound k e).status = e.status := rfl
@[simp] theorem advanceRound_din0 (k : Fin 16) (e : Engine) :
    (advanceRound k e).din0 = e.din0 := rfl
@[simp] theorem advanceRound_din1 (k : Fin 16) (e : Engine) :
    (advanceRound k e).din1 = e.din1 := rfl
@[simp] theorem advanceRound_key0 (k : Fin 16) (e : Engine) :
    (advanceRound k e).key0 = e.key0 := rfl
@[simp] theorem advanceRound_key1 (k : Fin 16) (e : Engine) :
    (advanceRound k e).key1 = e.key1 := rfl
@[simp] theorem advanceRound_dout0 (k : Fin 16) (e : Engine) :
    (advanceRound k e).dout0 = e.dout0 := rfl
@[simp] theorem advanceRound_dout1 (k : Fin 16) (e : Engine) :
    (advanceRound k e).dout1 = e.dout1 := rfl
@[simp] theorem advanceRound_rk (k : Fin 16) (e : Engine) :
    (advanceRound k e).rk = e.rk := rfl
@[simp] theorem advanceRound_x (k : Fin 16) (e : Engine) :
    (advanceRound k e).x = e.x := rfl
@[simp] theorem advanceRound_l (k : Fin 16) (e : Engine) :
    (advanceRound k e).l = e.l := rfl
@[simp] theorem advanceRound_r (k : Fin 16) (e : Engine) :
    (advanceRound k e).r = e.r := rfl
@[simp] theorem advanceRound_c (k : Fin 16) (e : Engine) :
    (advanceRound k e).c = e.c := rfl
@[simp] theorem advanceRound_d (k : Fin 16) (e : Engine) :
    (advanceRound k e).d = e.d := rfl
@[simp] theorem advanceRound_phase (k : Fin 16) (e : Engine) :
    (advanceRound k e).phase = if k.val + 1 = 16 then .final else .round := rfl
@[simp] theorem advanceRound_rnd (k : Fin 16) (e : Engine) :
    (advanceRound k e).rnd = BitVec.ofNat 5 (k.val + 1) := rfl
@[simp] theorem advanceRound_op (k : Fin 16) (e : Engine) :
    (advanceRound k e).op = e.op := rfl

@[simp] theorem finishCommand_cmd (e : Engine) :
    (finishCommand e).cmd = e.cmd := rfl
@[simp] theorem finishCommand_status (e : Engine) :
    (finishCommand e).status = e.status.finished := rfl
@[simp] theorem finishCommand_din0 (e : Engine) :
    (finishCommand e).din0 = e.din0 := rfl
@[simp] theorem finishCommand_din1 (e : Engine) :
    (finishCommand e).din1 = e.din1 := rfl
@[simp] theorem finishCommand_key0 (e : Engine) :
    (finishCommand e).key0 = e.key0 := rfl
@[simp] theorem finishCommand_key1 (e : Engine) :
    (finishCommand e).key1 = e.key1 := rfl
@[simp] theorem finishCommand_dout0 (e : Engine) :
    (finishCommand e).dout0 = e.dout0 := rfl
@[simp] theorem finishCommand_dout1 (e : Engine) :
    (finishCommand e).dout1 = e.dout1 := rfl
@[simp] theorem finishCommand_rk (e : Engine) :
    (finishCommand e).rk = e.rk := rfl
@[simp] theorem finishCommand_x (e : Engine) :
    (finishCommand e).x = e.x := rfl
@[simp] theorem finishCommand_l (e : Engine) :
    (finishCommand e).l = e.l := rfl
@[simp] theorem finishCommand_r (e : Engine) :
    (finishCommand e).r = e.r := rfl
@[simp] theorem finishCommand_c (e : Engine) :
    (finishCommand e).c = e.c := rfl
@[simp] theorem finishCommand_d (e : Engine) :
    (finishCommand e).d = e.d := rfl
@[simp] theorem finishCommand_phase (e : Engine) :
    (finishCommand e).phase = .idle := rfl
@[simp] theorem finishCommand_rnd (e : Engine) :
    (finishCommand e).rnd = e.rnd := rfl
@[simp] theorem finishCommand_op (e : Engine) :
    (finishCommand e).op = e.op := rfl

end Sys2Proof.Machine
end

