-- ==== Sys2Proof/Laws/Ops.lean ====
section
/-! SUPPORT. One lemma for each shared operation over the registers that says everything it can do. -/

namespace Sys2Proof.Machine

open Sys2Proof

/-- A CMD write is dropped while BUSY (60_exceptions.md R255). -/
theorem issueCommand_busy {e : Engine} (h : e.status.busy = true) (v : Word) (check : Option ErrorCode)
    (latch : Engine → Engine) : issueCommand v check latch e = { e with status := e.status.dropped } := by
  simp [issueCommand, h]

/-- An accepted command that fails a check is rejected (60_exceptions.md R251, R252). -/
theorem issueCommand_rejected {e : Engine} (h : e.status.busy = false) (v : Word) (c : ErrorCode)
    (latch : Engine → Engine) :
    issueCommand v (some c) latch e = { e with cmd := v, status := e.status.accepted.rejected c } := by
  simp [issueCommand, h, raiseError]

/-- An accepted command that passes its checks starts and latches its operands (60_exceptions.md R251). -/
theorem issueCommand_started {e : Engine} (h : e.status.busy = false) (v : Word) (latch : Engine → Engine) :
    issueCommand v none latch e = latch { e with cmd := v, status := e.status.accepted.started } := by
  simp [issueCommand, h]

/-- The three things a CMD write can do. -/
theorem issueCommand_cases (v : Word) (check : Option ErrorCode) (latch : Engine → Engine) (e : Engine) :
    (e.status.busy = true ∧ issueCommand v check latch e = { e with status := e.status.dropped }) ∨
    (e.status.busy = false ∧ ∃ c, check = some c ∧
      issueCommand v check latch e = { e with cmd := v, status := e.status.accepted.rejected c }) ∨
    (e.status.busy = false ∧ check = none ∧
      issueCommand v check latch e = latch { e with cmd := v, status := e.status.accepted.started }) := by
  cases hb : e.status.busy
  · cases check with
    | some c => exact .inr (.inl ⟨rfl, c, rfl, issueCommand_rejected hb v c latch⟩)
    | none => exact .inr (.inr ⟨rfl, rfl, issueCommand_started hb v latch⟩)
  · exact .inl ⟨rfl, issueCommand_busy hb v check latch⟩

/-- Every register is found at its offset (20_memory.md R62). -/
@[simp] theorem Reg.ofOffset_offset (r : Reg) : Reg.ofOffset r.offset = some r := by cases r <;> rfl

/-- An offset is a register's exactly when it is a multiple of 4 (20_memory.md R62, R63). -/
theorem Reg.ofOffset_eq_none : ∀ off : Fin 32, Reg.ofOffset off = none ↔ off.val % 4 ≠ 0 := by decide

/-- A register found at an offset has that offset. -/
theorem Reg.offset_of_ofOffset : ∀ (off : Fin 32) (r : Reg), Reg.ofOffset off = some r → r.offset = off := by
  intro off r h
  have := List.find?_some h
  simpa using this

/-- A write of a register other than CMD leaves everything but DIN and KEY alone (20_memory.md R69). -/
theorem writeReg_cases (r : Reg) (v : Word) (e : Engine) :
    writeReg r v e = e ∨ writeReg r v e = { e with din0 := v } ∨ writeReg r v e = { e with din1 := v } ∨
      writeReg r v e = { e with key0 := v } ∨ writeReg r v e = { e with key1 := v } := by
  cases r <;> simp [writeReg]

end Sys2Proof.Machine
end

