-- ==== Sys2Proof/Laws/Controller.lean ====
section
/-! SUPPORT. What one controller step can do (44_block_transform.md R211), once and for all of its rows. -/

namespace Sys2Proof.Machine

open Sys2Proof

@[simp] theorem KeyOrder.opcode_enc : KeyOrder.enc.opcode = opEncrypt := rfl
@[simp] theorem KeyOrder.opcode_dec : KeyOrder.dec.opcode = opDecrypt := rfl

/-- An opcode selects a key order exactly when it is ENCRYPT's or DECRYPT's. -/
theorem keyOrderOf_eq_some (op : Byte) (dir : KeyOrder) : keyOrderOf op = some dir ↔ op = dir.opcode := by
  unfold keyOrderOf
  cases dir <;> by_cases h : op = opEncrypt <;> by_cases h' : op = opDecrypt <;>
    simp_all [opEncrypt, opDecrypt]

/-- Everything a controller step can do, guards included. -/
theorem controllerStep_cases {cfg : Config} {e e' : Engine} (h : controllerStep cfg e = some e') :
    (e.phase = .idle ∧ e' = e) ∨
    (e.phase = .init ∧ e.op = opKeyset ∧ e' = keysetInit cfg e) ∨
    (e.phase = .init ∧ (∃ dir : KeyOrder, e.op = dir.opcode) ∧ e' = cipherInit cfg e) ∨
    (e.phase = .round ∧ e.op = opKeyset ∧ ∃ r : Fin 16, e.rnd.toNat = r.val ∧ e' = keysetRound cfg r e) ∨
    (e.phase = .round ∧ ∃ dir : KeyOrder, e.op = dir.opcode ∧
      ∃ r : Fin 16, e.rnd.toNat = r.val ∧ e' = cipherRound cfg dir r e) ∨
    (e.phase = .final ∧ e.op = opKeyset ∧ e' = keysetFinal e) ∨
    (e.phase = .final ∧ (∃ dir : KeyOrder, e.op = dir.opcode) ∧ e' = cipherFinal cfg e) ∨
    (e.phase = .perm ∧ e.op = opPermIp ∧ e' = permIpStep cfg e) ∨
    (e.phase = .perm ∧ e.op = opPermFp ∧ e' = permFpStep cfg e) := by
  unfold controllerStep at h
  cases hp : e.phase <;> simp only [hp] at h
  case idle => exact .inl ⟨rfl, (Option.some.inj h).symm⟩
  case init =>
    unfold stepInit at h
    split at h
    · exact .inr (.inl ⟨rfl, ‹_›, (Option.some.inj h).symm⟩)
    · obtain ⟨dir, hd, rfl⟩ := Option.map_eq_some_iff.mp h
      exact .inr (.inr (.inl ⟨rfl, ⟨dir, (keyOrderOf_eq_some _ _).mp hd⟩, rfl⟩))
  case round =>
    unfold stepRound at h
    split at h
    · rename_i hr
      split at h
      · exact .inr (.inr (.inr (.inl ⟨rfl, ‹_›, ⟨e.rnd.toNat, hr⟩, rfl, (Option.some.inj h).symm⟩)))
      · obtain ⟨dir, hd, rfl⟩ := Option.map_eq_some_iff.mp h
        exact .inr (.inr (.inr (.inr (.inl ⟨rfl, dir, (keyOrderOf_eq_some _ _).mp hd, ⟨e.rnd.toNat, hr⟩, rfl, rfl⟩))))
    · cases h
  case final =>
    unfold stepFinal at h
    split at h
    · exact .inr (.inr (.inr (.inr (.inr (.inl ⟨rfl, ‹_›, (Option.some.inj h).symm⟩)))))
    · obtain ⟨dir, hd, rfl⟩ := Option.map_eq_some_iff.mp h
      exact .inr (.inr (.inr (.inr (.inr (.inr (.inl ⟨rfl, ⟨dir, (keyOrderOf_eq_some _ _).mp hd⟩, rfl⟩))))))
  case perm =>
    unfold stepPerm at h
    split at h
    · exact .inr (.inr (.inr (.inr (.inr (.inr (.inr (.inl ⟨rfl, ‹_›, (Option.some.inj h).symm⟩)))))))
    · split at h
      · exact .inr (.inr (.inr (.inr (.inr (.inr (.inr (.inr ⟨rfl, ‹_›, (Option.some.inj h).symm⟩)))))))
      · cases h

/-- In IDLE no step is enabled. -/
theorem controllerStep_idle {cfg : Config} {e : Engine} (h : e.phase = .idle) : controllerStep cfg e = some e := by
  simp [controllerStep, h]

/-- The INIT row of KEYSET. -/
theorem controllerStep_init_keyset {cfg : Config} {e : Engine} (h : e.phase = .init) (ho : e.op = opKeyset) :
    controllerStep cfg e = some (keysetInit cfg e) := by simp [controllerStep, h, stepInit, ho]

/-- An opcode of the block commands ENCRYPT and DECRYPT is not KEYSET's, and selects its key order. -/
theorem keyOrderOf_opcode (dir : KeyOrder) : dir.opcode ≠ opKeyset ∧ keyOrderOf dir.opcode = some dir := by
  cases dir <;> decide

/-- The INIT row of ENCRYPT and DECRYPT. -/
theorem controllerStep_init_cipher {cfg : Config} {e : Engine} {dir : KeyOrder} (h : e.phase = .init)
    (ho : e.op = dir.opcode) : controllerStep cfg e = some (cipherInit cfg e) := by
  simp [controllerStep, h, stepInit, ho, keyOrderOf_opcode dir]

/-- The ROUND row of KEYSET. -/
theorem controllerStep_round_keyset {cfg : Config} {e : Engine} (h : e.phase = .round) (ho : e.op = opKeyset)
    (r : Fin 16) (hr : e.rnd.toNat = r.val) : controllerStep cfg e = some (keysetRound cfg r e) := by
  simp [controllerStep, h, stepRound, ho, hr]

/-- The ROUND row of ENCRYPT and DECRYPT. -/
theorem controllerStep_round_cipher {cfg : Config} {e : Engine} {dir : KeyOrder} (h : e.phase = .round)
    (ho : e.op = dir.opcode) (r : Fin 16) (hr : e.rnd.toNat = r.val) :
    controllerStep cfg e = some (cipherRound cfg dir r e) := by
  simp [controllerStep, h, stepRound, ho, hr, keyOrderOf_opcode dir]

/-- The FINAL row of KEYSET. -/
theorem controllerStep_final_keyset {cfg : Config} {e : Engine} (h : e.phase = .final) (ho : e.op = opKeyset) :
    controllerStep cfg e = some (keysetFinal e) := by simp [controllerStep, h, stepFinal, ho]

/-- The FINAL row of ENCRYPT and DECRYPT. -/
theorem controllerStep_final_cipher {cfg : Config} {e : Engine} {dir : KeyOrder} (h : e.phase = .final)
    (ho : e.op = dir.opcode) : controllerStep cfg e = some (cipherFinal cfg e) := by
  simp [controllerStep, h, stepFinal, ho, keyOrderOf_opcode dir]

/-- The PERM row of PERM_IP. -/
theorem controllerStep_permIp {cfg : Config} {e : Engine} (h : e.phase = .perm) (ho : e.op = opPermIp) :
    controllerStep cfg e = some (permIpStep cfg e) := by simp [controllerStep, h, stepPerm, ho]

/-- The PERM row of PERM_FP. -/
theorem controllerStep_permFp {cfg : Config} {e : Engine} (h : e.phase = .perm) (ho : e.op = opPermFp) :
    controllerStep cfg e = some (permFpStep cfg e) := by
  have : opPermFp ≠ opPermIp := by decide
  simp [controllerStep, h, stepPerm, ho, this]

/-- A run of the controller, one step at a time. -/
theorem runController_succ {cfg : Config} {e e' : Engine} (h : controllerStep cfg e = some e') (n : Nat) :
    runController cfg (n + 1) e = runController cfg n e' := by simp [runController, h]

/-- Two runs of the controller in a row are one. -/
theorem runController_add (cfg : Config) (m n : Nat) (e : Engine) :
    runController cfg (m + n) e = (runController cfg m e).bind (runController cfg n) := by
  induction m generalizing e with
  | zero => simp [runController]
  | succ m ih =>
    rw [Nat.succ_add]
    simp only [runController]
    cases controllerStep cfg e with
    | none => rfl
    | some e' => simpa using ih e'

/-- The controller's turn is its step, in the machine. -/
theorem controllerTurn_eq_next {s t : State} :
    controllerTurn s = .next t ↔ ∃ e, controllerStep Config.fce s.engine = some e ∧ t = { s with engine := e } := by
  unfold controllerTurn
  cases controllerStep Config.fce s.engine with
  | none => simp
  | some e => simp [eq_comm]

end Sys2Proof.Machine
end

