-- ==== Sys2Proof/Laws/HostProgram.lean ====
section
/-! SUPPORT. What loading a host program does. -/

namespace Sys2Proof.Machine

open Sys2Proof

/-- With nothing between its statements a program is its statements' events. -/
@[simp] theorem programEvents_nil (prog : List Stmt) : programEvents [] prog = prog.map Stmt.event := by
  induction prog with
  | nil => rfl
  | cons st prog ih => simp [programEvents, ih]

/-- Whatever happens between its statements, a program's accesses stay in its order (20_memory.md R71). -/
theorem sublist_programEvents (between : List (List Event)) (prog : List Stmt) :
    (prog.map Stmt.event).Sublist (programEvents between prog) := by
  induction prog generalizing between with
  | nil => simp
  | cons st prog ih =>
    cases between with
    | nil => simp
    | cons events between =>
      exact ((ih between).cons_cons st.event).trans (List.sublist_append_right events _)

@[simp] theorem loadProgram_engine (between : List (List Event)) (prog : List Stmt) (s : State) :
    (s.loadProgram between prog).engine = s.engine := rfl
@[simp] theorem loadProgram_events (between : List (List Event)) (prog : List Stmt) (s : State) :
    (s.loadProgram between prog).events = s.events ++ programEvents between prog := rfl
@[simp] theorem loadProgram_reply (between : List (List Event)) (prog : List Stmt) (s : State) :
    (s.loadProgram between prog).reply = s.reply := rfl

end Sys2Proof.Machine
end

