-- ==== Sys2Proof/Laws/Operands.lean ====
section
/-! SUPPORT. What the operand primitives do: permutations by position, and the byte lanes and command fields as numbers.
The claims about tables and buffers rest on these. -/

namespace Sys2Proof.Machine

open Sys2Proof

/-- Concatenation as a number. -/
theorem toNat_append_add {a b : Nat} (x : BitVec a) (y : BitVec b) :
    (x ++ y).toNat = x.toNat * 2 ^ b + y.toNat := by
  rw [BitVec.toNat_append, ← Nat.shiftLeft_add_eq_or_of_lt y.isLt, Nat.shiftLeft_eq]

/-- A field as a number. -/
theorem toNat_field {n : Nat} (start len : Nat) (x : BitVec n) :
    (x.extractLsb' start len).toNat = x.toNat / 2 ^ start % 2 ^ len := by
  rw [BitVec.extractLsb'_toNat, Nat.shiftRight_eq_div_pow]

/-- Position i + 1 of `permute(T, n, v)` is position `T[i+1]` of v, for a table as long as the output is wide. -/
theorem permute_getMsbD {n m : Nat} (t : List Nat) (v : BitVec n) (ht : t.length = m) (i : Nat) (hi : i < m) :
    (permute t v : BitVec m).getMsbD i = v.getMsbD (t.getD i 0 - 1) := by
  subst ht
  have hw : (permute t v : BitVec t.length).getMsbD i =
      (BitVec.ofBoolListBE (t.map fun p => v.getMsbD (p - 1))).getMsbD i := by
    simp [permute, BitVec.getMsbD_setWidth]
  rw [hw, BitVec.getMsbD_ofBoolListBE]
  simp [List.getD_eq_getElem?_getD, List.getElem?_eq_getElem hi]

/-- `swap32` moves each bit to the other half (00_scope.md R12). -/
theorem swap32_getLsbD (w : Block) (j : Nat) (hj : j < 64) :
    (swap32 w).getLsbD j = w.getLsbD ((j + 32) % 64) := by
  have h : (swap32 w).getLsbD j =
      (w.extractLsb' 0 32 ++ w.extractLsb' 32 32 : BitVec (32 + 32)).getLsbD j := rfl
  rw [h, BitVec.getLsbD_append]
  split
  · rw [BitVec.getLsbD_extractLsb', show (j + 32) % 64 = 32 + j by omega]
    simp_all
  · rw [BitVec.getLsbD_extractLsb', show (j + 32) % 64 = 0 + (j - 32) by omega]
    simp; omega
/-- The lanes of a buffer give its first register back. -/
@[simp] theorem lowLanes_lanes (lo hi : Word) : lowLanes (lanes lo hi) = lo := by
  apply BitVec.eq_of_toNat_eq
  have := lo.isLt
  simp only [lowLanes, lanes, Vector.getElem_mk, List.getElem_toArray, List.getElem_cons_succ, List.getElem_cons_zero,
    toNat_append_add, toNat_field]
  omega

/-- The lanes of a buffer give its second register back. -/
@[simp] theorem highLanes_lanes (lo hi : Word) : highLanes (lanes lo hi) = hi := by
  apply BitVec.eq_of_toNat_eq
  have := hi.isLt
  simp only [highLanes, lanes, Vector.getElem_mk, List.getElem_toArray, List.getElem_cons_succ, List.getElem_cons_zero,
    toNat_append_add, toNat_field]
  omega

/-- The checks of a block command pass exactly when both lengths are 8. -/
theorem checkBlockLengths_eq_none (inLen outLen : Byte) :
    checkBlockLengths inLen outLen = none ↔ inLen = 8#8 ∧ outLen = 8#8 := by
  unfold checkBlockLengths
  split <;> simp_all

/-- The checks of ENCRYPT and DECRYPT pass exactly when both lengths are 8 and a key is loaded. -/
theorem checkCipher_eq_none (inLen outLen : Byte) (kv : Bool) :
    checkCipher inLen outLen kv = none ↔ inLen = 8#8 ∧ outLen = 8#8 ∧ kv = true := by
  have h := checkBlockLengths_eq_none inLen outLen
  unfold checkCipher checkKeyLoaded
  cases hc : checkBlockLengths inLen outLen <;> simp_all

/-- The check of KEYSET passes exactly when IN_LEN is `KEY_BYTES`. -/
theorem checkKeyLength_eq_none (cfg : Config) (inLen : Byte) :
    checkKeyLength cfg inLen = none ↔ inLen.toNat = cfg.keyBytes := by
  unfold checkKeyLength
  split <;> simp_all

end Sys2Proof.Machine
end

