-- ==== Sys2Proof/Laws/PerInstr.lean ====
section
/-! SUPPORT. Statements for all instructions, one lemma per constructor: the command word of an instruction is defined
(30_encoding.md R94), its RSVD field is 0, and its other fields are the instruction's (R90, R91). -/

namespace Sys2Proof.Laws.EncodedWord

open Sys2Proof Sys2Proof.Machine

/-- The fields of the command word of i. -/
def Statement (i : Instr) : Prop :=
  wordWellFormed (encode i) = true ∧ opcodeField (encode i) = i.opcode ∧ rsvdField (encode i) = 0x00#8 ∧
    inLenField (encode i) = i.inLen ∧ outLenField (encode i) = i.outLen

/-- A command word built from its fields has them. -/
theorem commandWord_fields (op n m : Byte) :
    opcodeField (commandWord op n m) = op ∧ rsvdField (commandWord op n m) = 0x00#8 ∧
      inLenField (commandWord op n m) = n ∧ outLenField (commandWord op n m) = m := by
  have := op.isLt
  have := n.isLt
  have := m.isLt
  refine ⟨?_, ?_, ?_, ?_⟩ <;> apply BitVec.eq_of_toNat_eq <;>
    simp only [opcodeField, rsvdField, inLenField, outLenField, commandWord, toNat_field, toNat_append_add,
      BitVec.toNat_ofNat] <;> omega

/-- A command word with one of the five opcodes is defined. -/
theorem of_opcode {i : Instr} (h : i.opcode ∈ [0x01#8, 0x02#8, 0x03#8, 0x04#8, 0x05#8]) : Statement i := by
  obtain ⟨h1, h2, h3, h4⟩ := commandWord_fields i.opcode i.inLen i.outLen
  refine ⟨?_, h1, h2, h3, h4⟩
  simp only [opcodeField, rsvdField] at h1 h2
  simp only [wordWellFormed, encode, h1, h2, beq_self_eq_true, Bool.true_and, List.contains_iff_mem]
  exact h

theorem keyset (n m : Byte) : Statement (.keyset n m) := of_opcode (by simp [Instr.opcode, opKeyset])

theorem encrypt (n m : Byte) : Statement (.encrypt n m) := of_opcode (by simp [Instr.opcode, opEncrypt])

theorem decrypt (n m : Byte) : Statement (.decrypt n m) := of_opcode (by simp [Instr.opcode, opDecrypt])

theorem permIp (n m : Byte) : Statement (.permIp n m) := of_opcode (by simp [Instr.opcode, opPermIp])

theorem permFp (n m : Byte) : Statement (.permFp n m) := of_opcode (by simp [Instr.opcode, opPermFp])

end Sys2Proof.Laws.EncodedWord
end

