-- ==== Sys2Proof/Laws/Step.lean ====
section
/-! SUPPORT. What a command's issue and one step of the machine can do, said once. -/

namespace Sys2Proof.Machine

open Sys2Proof

/-- The issue of a command, for the instruction it is. -/
def issueOf (cfg : Config) (i : Instr) : Engine → Engine :=
  match i with
  | .keyset n m => issueKeyset cfg n m
  | .encrypt n m => issueEncrypt cfg n m
  | .decrypt n m => issueDecrypt cfg n m
  | .permIp n m => issuePermIp cfg n m
  | .permFp n m => issuePermFp cfg n m

/-- Every instruction's meaning is its issue, and touches the engine alone. -/
theorem exec_eq_next (i : Instr) (s : State) :
    exec i s = .next { s with engine := issueOf Config.fce i s.engine } := by cases i <;> rfl

/-- What a CMD write does to the engine: the issue of its command, or the rejection of an illegal word. -/
def commandEngine (cfg : Config) (v : Word) (e : Engine) : Engine :=
  match decode v with
  | some i => issueOf cfg i e
  | none => issueCommand v (some .illegalCommand) id e

/-- A CMD write touches the engine alone. -/
theorem commandWrite_eq_next (v : Word) (s : State) :
    commandWrite v s = .next { s with engine := commandEngine Config.fce v s.engine } := by
  unfold commandWrite commandEngine
  cases decode v with
  | none => rfl
  | some i => exact exec_eq_next i s

/-- With nothing pending a step is the controller's turn. -/
theorem step_of_nil {s : State} (h : s.events = []) : step s = controllerTurn s := by simp [step, h]

/-- With an event pending a step is that event. -/
theorem step_of_cons {s : State} {ev : Event} {rest : List Event} (h : s.events = ev :: rest) :
    step s = handleEvent ev { s with events := rest } := by simp [step, h]

/-- A run of no step. -/
theorem run_zero (s : State) : Host.Core.run Sys2Proof.core 0 s = .next s := rfl

/-- A run whose first step answers t is the rest of the run from t. -/
theorem run_succ {s t : State} (h : step s = .next t) (n : Nat) :
    Host.Core.run Sys2Proof.core (n + 1) s = Host.Core.run Sys2Proof.core n t := by
  have hrun : ∀ (M : Host.Core) (a b : M.State), M.step a = .next b → M.run (n + 1) a = M.run n b := by
    intro M a b hab
    rw [Host.Core.run, hab]
  exact hrun Sys2Proof.core s t h

/-- Whether a step of s is a turn of the controller. -/
def ControllerIsNext (s : State) : Prop := s.events = [] ∨ ∃ rest, s.events = .controller :: rest

/-- The engine after one step, with the event that changed it: nothing, a register write, a command's issue, a
rejection of an illegal word, a controller step, or reset. -/
theorem step_engine_cases {s t : State} (h : step s = .next t) :
    t.engine = s.engine ∨
    (∃ off v r rest, s.events = .access (.write32 off v) :: rest ∧ Reg.ofOffset off = some r ∧ r ≠ .cmd ∧
      t.engine = writeReg r v s.engine) ∨
    (∃ v i rest, s.events = .access (.write32 (Reg.offset .cmd) v) :: rest ∧ decode v = some i ∧
      t.engine = issueOf Config.fce i s.engine) ∨
    (∃ v rest, s.events = .access (.write32 (Reg.offset .cmd) v) :: rest ∧ decode v = none ∧
      t.engine = issueCommand v (some .illegalCommand) id s.engine) ∨
    (ControllerIsNext s ∧ controllerStep Config.fce s.engine = some t.engine) ∨
    (∃ rest, s.events = .reset :: rest ∧ t.engine = Engine.reset) := by
  cases hev : s.events with
  | nil =>
    rw [step_of_nil hev] at h
    obtain ⟨e, he, rfl⟩ := controllerTurn_eq_next.mp h
    exact .inr (.inr (.inr (.inr (.inl ⟨.inl hev, he⟩))))
  | cons ev rest =>
    rw [step_of_cons hev] at h
    cases ev with
    | controller =>
      obtain ⟨e, he, rfl⟩ := controllerTurn_eq_next.mp h
      exact .inr (.inr (.inr (.inr (.inl ⟨.inr ⟨rest, hev⟩, he⟩))))
    | reset =>
      cases h
      exact .inr (.inr (.inr (.inr (.inr ⟨rest, rfl, rfl⟩))))
    | wait gaps =>
      refine .inl ?_
      simp only [handleEvent, waitPoll] at h
      split at h <;> cases h <;> rfl
    | access a =>
      cases a with
      | other dir w off => cases h; exact .inl rfl
      | read32 off =>
        refine .inl ?_
        simp only [handleEvent, hostAccess, hostRead] at h
        split at h <;> cases h <;> rfl
      | write32 off v =>
        simp only [handleEvent, hostAccess, hostWrite] at h
        split at h
        · rename_i hr
          have hoff := Reg.offset_of_ofOffset off _ hr
          subst hoff
          rw [commandWrite_eq_next] at h
          cases h
          cases hd : decode v with
          | none => exact .inr (.inr (.inr (.inl ⟨v, rest, rfl, hd, by simp [commandEngine, hd]⟩)))
          | some i => exact .inr (.inr (.inl ⟨v, i, rest, rfl, hd, by simp [commandEngine, hd]⟩))
        · rename_i r hne hr
          cases h
          exact .inr (.inl ⟨off, v, r, rest, rfl, hr, fun hc => hne (hc ▸ rfl), rfl⟩)
        · cases h; exact .inl rfl

end Sys2Proof.Machine
end

