-- ==== Sys2Proof/Tests/Slice0.lean ====
section
/-! SUPPORT. The model's own tests. Every expected value is from spec/ (its vectors V-* are in 95_test_vectors.md) or
written out by hand from a rule; none is the model's own answer. The second half holds, for each statement of
Certificates/Slice0/Obligations.lean that has hypotheses, a concrete state and operands that meet them. -/

namespace Sys2Proof.Tests

open Sys2Proof Sys2Proof.Machine

/-! ### Small states -/

/-- A machine with this engine and these events before it. -/
def machine (e : Engine) (events : List Event) : State := { engine := e, events := events, reply := .noReply }

/-- A host's write of a word to CMD. -/
def cmdWrite (v : Word) : Event := .access (.write32 0x00 v)

/-- The block of V-KAT in DIN, no key loaded. -/
def withBlock : Engine := { Engine.reset with din0 := 0x89ABCDEF#32, din1 := 0x01234567#32 }

/-- The key of V-KAT in KEY, not yet loaded. -/
def withKey : Engine := { Engine.reset with key0 := 0x9BBCDFF1#32, key1 := 0x13345779#32 }

/-- The round keys of V-KS1, as its table prints them. -/
def katKeys : KeyFile :=
  #v[0x1B02EFFC7072#48, 0x79AED9DBC9E5#48, 0x55FC8A42CF99#48, 0x72ADD6DB351D#48, 0x7CEC07EB53A8#48,
    0x63A53E507B2F#48, 0xEC84B7F618BC#48, 0xF78A3AC13BFB#48, 0xE0DBEBEDE781#48, 0xB1F347BA464F#48,
    0x215FD3DED386#48, 0x7571F59467E9#48, 0x97C5D1FABA41#48, 0x5F43B7F2E73A#48, 0xBF918D3D3F0A#48,
    0xCB3D8B0E17F5#48]

/-- An idle engine that has loaded V-KAT's key and holds V-KAT's block in DIN. -/
def keyed : Engine :=
  { withBlock with
    status := { busy := false, done := true, keyValid := true, overrun := false, err := 0#4 }, rk := katKeys, op := 0x01#8 }

/-- STATUS while a command runs. -/
def busyStatus (keyValid : Bool) : Status :=
  { busy := true, done := false, keyValid := keyValid, overrun := false, err := 0#4 }

/-- An engine in which ENCRYPT of V-KAT's block has just been accepted. -/
def encrypting : Engine :=
  { keyed with cmd := 0x08080002#32, status := busyStatus true, x := 0x0123456789ABCDEF#64, din0 := 0#32, din1 := 0#32,
               op := 0x02#8, phase := .init }

/-- An engine in which KEYSET of V-KAT's key has just been accepted. -/
def keysetting : Engine :=
  { Engine.reset with cmd := 0x00080001#32, status := busyStatus false, x := 0x133457799BBCDFF1#64, op := 0x01#8,
                      phase := .init }

/-- The same KEYSET before its round r + 1, with the halves V-KS1 gives there. -/
def keysetAtRound (r : Nat) (c d : KeyHalf) (rk : KeyFile) : Engine :=
  { keysetting with x := 0#64, c := c, d := d, rnd := BitVec.ofNat 5 r, rk := rk, phase := .round }

/-- An engine in which PERM_IP of V-KAT's block has just been accepted, without a key. -/
def permuting : Engine :=
  { Engine.reset with cmd := 0x08080004#32, status := busyStatus false, x := 0x0123456789ABCDEF#64, op := 0x04#8,
                      phase := .perm }

/-- The engine after a machine's step, where it takes one. -/
def after (s : State) : Option Engine :=
  match step s with
  | .next t => some t.engine
  | .fault _ => none
  | .refused _ => none

/-- The answer of a machine's step to an access. -/
def answer (s : State) : Option Reply :=
  match step s with
  | .next t => some t.reply
  | .fault _ => none
  | .refused _ => none

/-! ### WellFormed refuses -/

theorem test_word_reserved_bits_refused : wordWellFormed 0x08080102#32 = false := by decide

theorem test_word_opcode_zero_refused : wordWellFormed 0x00000000#32 = false := by decide

theorem test_word_opcode_six_refused : wordWellFormed 0x08080006#32 = false := by decide

theorem test_word_defined : wordWellFormed 0xFF080001#32 = true := by decide

theorem test_table_length_refused : tableWellFormed 4 3 [1, 2] = false := by decide

theorem test_table_position_zero_refused : tableWellFormed 4 3 [1, 0, 2] = false := by decide

theorem test_table_position_over_width_refused : tableWellFormed 4 3 [1, 5, 2] = false := by decide

theorem test_sbox_length_refused : sboxWellFormed (List.replicate 63 0) = false := by decide

theorem test_sbox_entry_refused : sboxWellFormed (16 :: List.replicate 63 0) = false := by decide

theorem test_shift_length_refused : shiftWellFormed (List.replicate 15 1) = false := by decide

theorem test_shift_entry_refused : shiftWellFormed (3 :: List.replicate 15 1) = false := by decide

theorem test_tables_short_ip_refused : Tables.wellFormed { desStd with ip := [1] } = false := by decide +kernel

theorem test_tables_sbox_refused :
    Tables.wellFormed { desStd with sboxes := Vector.replicate 8 [16] } = false := by decide +kernel

theorem test_config_base_refused : Config.wellFormed { Config.fce with base := 33 } = false := by decide +kernel

theorem test_config_wellFormed : Config.wellFormed { Config.fce with base := 0x40000020 } = true := by decide +kernel

theorem test_bijection_duplicate_refused : tableBijective 3 [1, 1, 3] = false := by decide

/-! ### Decoding, each word written bit by bit from 30_encoding.md R90: OUT_LEN, IN_LEN, RSVD, OPCODE -/

theorem test_decode_keyset :
    decode 0b00000000_00001000_00000000_00000001#32 = some (.keyset 8#8 0#8) := by decide

theorem test_decode_encrypt :
    decode 0b00000100_00010000_00000000_00000010#32 = some (.encrypt 16#8 4#8) := by decide

theorem test_decode_decrypt :
    decode 0b11111111_00000000_00000000_00000011#32 = some (.decrypt 0#8 255#8) := by decide

theorem test_decode_perm_ip :
    decode 0b00001000_10000000_00000000_00000100#32 = some (.permIp 128#8 8#8) := by decide

theorem test_decode_perm_fp :
    decode 0b00000001_00001000_00000000_00000101#32 = some (.permFp 8#8 1#8) := by decide

theorem test_decode_illegal :
    decode 0b00001000_00001000_00000001_00000010#32 = none ∧ decode 0b00001000_00001000_10000000_00000011#32 = none ∧
      decode 0b00001000_00001000_00000000_00000110#32 = none ∧ decode 0b00001000_00001000_00000000_10000001#32 = none ∧
      decode 0#32 = none := by decide

/-- A row's word may be given by its low 16 bits alone; a number over 32 bits is no word. -/
theorem test_decode_table_word :
    decodeTableWord 16 0x0002 = some (.encrypt 0#8 0#8) ∧ decodeTableWord 32 0x08080005 = some (.permFp 8#8 8#8) ∧
      decodeTableWord 40 0x100000001 = none := by decide

/-! ### The five commands -/

/-- V-E6 with the placement of the word: the first step from reset runs the KEYSET of 7 bytes, which is rejected. -/
theorem test_keyset_length_seven :
    (after (State.reset.withFetchWord 32 0x00070001)).map (·.status.word) = some 0x00000032#32 := by decide

/-- V-KS1: the schedule of the known-answer key, all sixteen round keys. -/
theorem test_keyset_schedule : keySchedule Config.fce 0x133457799BBCDFF1#64 = katKeys := by decide +kernel

/-- P1: ENCRYPT is accepted, its operand latched from DIN1 and DIN0, DIN cleared. -/
theorem test_encrypt_accepted :
    after ((machine keyed []).withFetchWord 32 0x08080002) = some encrypting := by decide

/-- V-BT1: the known answer. -/
theorem test_encrypt_known_answer :
    blockTransform Config.fce .enc katKeys 0x0123456789ABCDEF#64 = 0x85E813540F0AB405#64 := by decide +kernel

/-- V-E8 for DECRYPT: without a key it is rejected with NoKey. -/
theorem test_decrypt_without_key :
    (after (State.reset.withFetchWord 32 0x08080003)).map (·.status.word) = some 0x00000042#32 := by decide

/-- V-BT2: the known answer backwards. -/
theorem test_decrypt_known_answer :
    blockTransform Config.fce .dec katKeys 0x85E813540F0AB405#64 = 0x0123456789ABCDEF#64 := by decide +kernel

/-- V-E9: PERM_IP needs no key. -/
theorem test_perm_ip_accepted :
    (after ((machine withBlock []).withFetchWord 32 0x08080004)) = some permuting := by decide

/-- V-P6: PERM_IP's one step. -/
theorem test_perm_ip_output :
    (after (machine permuting [])).map (fun e => (e.dout1, e.dout0, e.status.word)) =
      some (0xCC00CCFF#32, 0xF0AAF0AA#32, 0x00000002#32) := by decide +kernel

/-- V-E3's check on PERM_FP: OUT_LEN 4 is code 2. -/
theorem test_perm_fp_output_length :
    (after (State.reset.withFetchWord 32 0x04080005)).map (·.status.word) = some 0x00000022#32 := by decide

/-- V-P6: PERM_FP's one step. -/
theorem test_perm_fp_output :
    (after (machine { permuting with op := 0x05#8 } [])).map (fun e => (e.dout1, e.dout0)) =
      some (0xFF330F55#32, 0x00330F55#32) := by decide +kernel

/-! ### Acceptance, the window, the controller's rounds -/

/-- V-E4, V-E5, V-E7, V-E12, V-E13, V-E14: the order of the checks, and a write while BUSY. -/
theorem test_status_after_command_writes :
    [(keyed, 0x04100002#32), (Engine.reset, 0x00000002#32), (Engine.reset, 0xFF080001#32), (keyed, 0x00000000#32),
        (keyed, 0x00000106#32), (encrypting, 0x08080003#32)].map
      (fun p => (after (machine p.1 [cmdWrite p.2])).map (·.status.word)) =
      [some 0x00000016#32, some 0x00000012#32, some 0x00000001#32, some 0x00000056#32, some 0x00000056#32,
        some 0x0000000D#32] := by decide

/-- 20_memory.md R62, R69: KEY reads as 0, DOUT ignores a write, an unaligned write is a bus error. -/
theorem test_window :
    answer (machine withKey [.access (.read32 0x10)]) = some (.data 0#32) ∧
      after (machine withKey [.access (.write32 0x18 1#32)]) = some withKey ∧
      answer (machine withKey [.access (.write32 0x02 0x00080001#32)]) = some .busError := by decide

/-- V-KS1, r = 0 and V-F1: one round of each kind, from the halves the vectors give. -/
theorem test_rounds :
    (after (machine (keysetAtRound 0 0xF0CCAAF#28 0x556678F#28 Engine.reset.rk) [])).map
        (fun e => (e.c, e.d, e.rk[0], e.rnd)) = some (0xE19955F#28, 0xAACCF1E#28, 0x1B02EFFC7072#48, 1#5) ∧
      (after (machine { encrypting with x := 0#64, l := 0xCC00CCFF#32, r := 0xF0AAF0AA#32, phase := .round } [])).map
        (fun e => (e.l, e.r, e.rnd)) = some (0xF0AAF0AA#32, 0xEF4A6544#32, 1#5) ∧
      feistel Config.fce 0x12345678#32 0x0123456789AB#48 = 0xCA23B070#32 := by decide +kernel

/-- V-S1: S1 and S8 at groups 0x00, 0x01, 0x20, 0x21, 0x1E, 0x3F. -/
theorem test_sbox_lookup :
    [0x00, 0x01, 0x20, 0x21, 0x1E, 0x3F].map (fun g => sboxLookup desStd.sboxes[0] (BitVec.ofNat 6 g)) =
        [14#4, 0#4, 4#4, 15#4, 7#4, 13#4] ∧
      [0x00, 0x01, 0x20, 0x21, 0x1E, 0x3F].map (fun g => sboxLookup desStd.sboxes[7] (BitVec.ofNat 6 g)) =
        [13#4, 1#4, 7#4, 2#4, 7#4, 11#4] := by decide +kernel

/-- P5's kind of interleaving: no turn before the second of two CMD writes, or one, and a reset before a read. -/
theorem test_program_interleavings :
    (State.reset.loadProgram [] [.cmd 0x00080001#32, .cmd 0x08080002#32]).events =
        [cmdWrite 0x00080001#32, cmdWrite 0x08080002#32] ∧
      (State.reset.loadProgram [[], [.controller], [.reset]]
        [.cmd 0x00080001#32, .cmd 0x08080002#32, .rd .status]).events =
        [cmdWrite 0x00080001#32, .controller, cmdWrite 0x08080002#32, .reset, .access (.read32 0x04)] := by decide

/-- V-KAT's big-endian registers hold the same word (20_memory.md R66). -/
theorem test_big_endian_buffer :
    load64 .be (lanes 0x67452301#32 0xEFCDAB89#32) = 0x0123456789ABCDEF#64 := by decide

/-! ### Witnesses: for each statement with hypotheses, a concrete input that meets them; where a statement has clauses,
one for each, at the ends of its range -/

/-- For `ResetEventSetsEveryRegister` and `ResetAbortsTheRunningCommand`: a reset while ENCRYPT runs. -/
theorem witness_reset_event :
    (machine encrypting [.reset]).events = [.reset] ∧ after (machine encrypting [.reset]) = some Engine.reset := by decide

/-- For `StatusRegister`: a read and a write of STATUS. -/
theorem witness_status_register :
    answer (machine keyed [.access (.read32 0x04)]) = some (.data 0x00000006#32) ∧
      after (machine keyed [.access (.write32 0x04 0xFFFFFFFF#32)]) = some keyed := by decide

/-- For `HostAccessEffects`: the first and the last register, read and written, and the four that take a write. -/
theorem witness_host_accesses :
    answer (machine encrypting [.access (.read32 0x00)]) = some (.data 0x08080002#32) ∧
      answer (machine encrypting [.access (.read32 0x1C)]) = some (.data 0#32) ∧
      after (machine keyed [.access (.write32 0x00 0#32)]) =
        some { keyed with status := { keyed.status with err := 5#4 } } ∧
      after (machine keyed [.access (.write32 0x08 7#32)]) = some { keyed with din0 := 7#32 } ∧
      after (machine keyed [.access (.write32 0x0C 7#32)]) = some { keyed with din1 := 7#32 } ∧
      after (machine keyed [.access (.write32 0x10 7#32)]) = some { keyed with key0 := 7#32 } ∧
      after (machine keyed [.access (.write32 0x14 7#32)]) = some { keyed with key1 := 7#32 } ∧
      after (machine keyed [.access (.write32 0x1C 7#32)]) = some keyed := by decide

/-- For `BusErrorChangesNoEngineState`: a byte write of CMD, and unaligned words at both ends of the window. -/
theorem witness_bus_errors :
    [Access.other .write .bits8 0x00, .read32 0x01, .write32 0x1F 0#32].map
      (fun a => (after (machine keyed [.access a]), answer (machine keyed [.access a]))) =
      List.replicate 3 (some keyed, some .busError) := by decide

/-- For `WindowDecodesItsOwnAddressesOnly`: the first address, the last, and the one after it. -/
theorem witness_window_addresses :
    Config.fce.base = Config.fce.base + (0 : Fin 32).val ∧ Config.fce.base + 31 = Config.fce.base + (31 : Fin 32).val ∧
      Config.fce.base + 32 ≤ Config.fce.base + 32 := ⟨rfl, rfl, Nat.le_refl _⟩

/-- For `DecodedFieldsAreTheWordsFields`, `EncodeOfDecode` and `StepRunsTheDecodedInstruction`: defined words at both
ends of the length fields. -/
theorem witness_decoded_words :
    decode 0x00000001#32 = some (.keyset 0#8 0#8) ∧ decode 0xFFFF0005#32 = some (.permFp 255#8 255#8) ∧
      (machine keyed [cmdWrite 0xFFFF0005#32]).events = .access (.write32 0x00 0xFFFF0005#32) :: [] := by decide

/-- For `DecodeDefinedExactly`: two words with the same low half. -/
theorem witness_same_low_half :
    (0x00000002#32).extractLsb' 0 16 = (0xFFFF0002#32).extractLsb' 0 16 ∧
      (0x00000102#32).extractLsb' 0 16 = (0x08080102#32).extractLsb' 0 16 := by decide

/-- For `CmdWriteFollowsTheIssueRule`, `ValidationOrder` and `BusyIsVisibleAfterTheCommand`: a busy engine; an idle one
that rejects, that starts KEYSET, ENCRYPT and PERM_IP. -/
theorem witness_command_writes :
    encrypting.status.busy = true ∧ keyed.status.busy = false ∧
      validate Config.fce 0x08080102#32 keyed.status.keyValid = some .illegalCommand ∧
      validate Config.fce 0x00070001#32 keyed.status.keyValid = some .invalidKeyLength ∧
      validate Config.fce 0x04100002#32 keyed.status.keyValid = some .invalidArgumentInput ∧
      validate Config.fce 0x04080005#32 keyed.status.keyValid = some .invalidArgumentOutput ∧
      validate Config.fce 0x08080003#32 Engine.reset.status.keyValid = some .noKey ∧
      (validate Config.fce 0xFF080001#32 keyed.status.keyValid = none ∧ opcodeField 0xFF080001#32 = 0x01#8) ∧
      (validate Config.fce 0x08080002#32 keyed.status.keyValid = none ∧ opcodeField 0x08080002#32 ≠ 0x01#8) ∧
      (validate Config.fce 0x08080004#32 keyed.status.keyValid = none ∧ opcodeField 0x08080004#32 ≠ 0x01#8) := by
  decide

/-- For `BusyIsVisibleAfterTheCommand`: the pending events of a host that reads STATUS at once. -/
theorem witness_busy_is_visible :
    (machine keyed [cmdWrite 0x08080002#32, .access (.read32 0x04)]).events =
      [.access (.write32 0x00 0x08080002#32), .access (.read32 0x04)] := rfl

/-- For `RejectionIsPrecise`: lengths beside 8 on both sides, no key, an illegal word. -/
theorem witness_rejections :
    keyed.status.busy = false ∧ (7#8 : Byte) ≠ 8#8 ∧ (9#8 : Byte) ≠ 8#8 ∧
      Instr.permFp 7#8 8#8 ∈ [Instr.encrypt 7#8 8#8, .decrypt 7#8 8#8, .permIp 7#8 8#8, .permFp 7#8 8#8] ∧
      Instr.decrypt 8#8 8#8 ∈ [Instr.encrypt 8#8 8#8, .decrypt 8#8 8#8] ∧ Engine.reset.status.keyValid = false ∧
      decode 0x00000006#32 = none := by decide

/-- For `WriteWhileBusyIsDropped` and `RunningCommandIsUndisturbed`: a CMD write and a DIN write while ENCRYPT runs. -/
theorem witness_accesses_while_busy :
    encrypting.status.busy = true ∧
      after (machine encrypting [cmdWrite 0x08080003#32]) =
        some { encrypting with status := { encrypting.status with overrun := true } } ∧
      after (machine encrypting [.access (.write32 0x08 5#32)]) = some { encrypting with din0 := 5#32 } := by decide

/-- For `IssuingACommandFrame`: KEYSET changes KEY, PERM_IP changes DIN, a rejection leaves the engine idle, a drop. -/
theorem witness_issue_frames :
    exec (.keyset 8#8 0#8) (machine withKey []) = .next (machine keysetting []) ∧
      keysetting.key0 ≠ withKey.key0 ∧ exec (.permIp 8#8 8#8) (machine withBlock []) = .next (machine permuting []) ∧
      permuting.din0 ≠ withBlock.din0 ∧
      (after (machine keyed [cmdWrite 0x00000002#32])).map (·.status.busy) = some false ∧
      encrypting.status.busy = true := by
  refine ⟨rfl, by decide, rfl, by decide, by decide, by decide⟩

/-- For `KeysetCompletes`, `PermIpCompletes`, `PermFpCompletes`, `EncryptCompletes`, `DecryptCompletes` and
`HostEncryptsOneBlock`: an idle engine, and one with a key. -/
theorem witness_completions :
    withKey.status.busy = false ∧ keyed.status.busy = false ∧ keyed.status.keyValid = true ∧
      (machine keyed [cmdWrite 0x08080002#32]).events = [.access (.write32 0x00 0x08080002#32)] := by decide

/-- For `CipherInitStep`, `CipherStepsComputeBlockTransform`, `KeysetStepsComputeKeySchedule`, `StepCounts` and
`OutputDependsOnBlockAndKeysAlone`: commands about to take their first step. -/
theorem witness_first_steps :
    encrypting.phase = .init ∧ encrypting.op = 0x02#8 ∧ encrypting.op = KeyOrder.enc.opcode ∧
      encrypting.op ∈ [0x02#8, 0x03#8] ∧ encrypting.rnd = 0#5 ∧
      keysetting.phase = .init ∧ keysetting.op = 0x01#8 ∧ keysetting.rnd = 0#5 ∧
      permuting.phase = .perm ∧ permuting.op ∈ [0x04#8, 0x05#8] ∧ permuting.rnd = 0#5 ∧
      ({ encrypting with dout0 := 1#32, cmd := 0#32 } : Engine).x = encrypting.x ∧
      ({ permuting with rk := katKeys, dout0 := 1#32 } : Engine).x = permuting.x ∧
      (runController Config.fce 1 { permuting with rk := katKeys }).map (fun e => (e.dout1, e.dout0)) =
        some (0xCC00CCFF#32, 0xF0AAF0AA#32) ∧
      (runController Config.fce 18 encrypting).map (fun e => (e.dout1, e.dout0)) =
        some (0x85E81354#32, 0x0F0AB405#32) := by decide +kernel

/-- For `CipherRoundStep`, `CipherFinalStep`, `KeysetSteps` and `ControllerTable`: the first and the last round, the final
step, and the three ways to have no row. -/
theorem witness_controller_rows :
    ({ encrypting with phase := .round } : Engine).rnd.toNat = (0 : Fin 16).val ∧
      ({ encrypting with op := 0x03#8, phase := .round, rnd := 15#5 } : Engine).rnd.toNat = (15 : Fin 16).val ∧
      ({ encrypting with phase := .final, rnd := 16#5 } : Engine).phase = .final ∧
      (keysetAtRound 15 0xF866557#28 0xAAB33C7#28 katKeys).rnd.toNat = (15 : Fin 16).val ∧
      after (machine keyed []) = some keyed ∧
      after (machine { encrypting with op := 0x04#8 } []) = none ∧
      after (machine { encrypting with phase := .round, rnd := 16#5 } []) = none ∧
      after (machine { permuting with op := 0x02#8 } []) = none := by decide

/-- For `PermuteMovesPositions` and `RotationsAreCumulative`: tables of the width they are used at, both ends of the
range of positions and of rounds. -/
theorem witness_tables :
    ipTable.length = 64 ∧ (∀ p ∈ ipTable, 1 ≤ p ∧ p ≤ 64) ∧ (1 ≤ 1 ∧ 64 ≤ ipTable.length) ∧
      Config.fce.tables.shift.length = 16 ∧ (0 < 16 ∧ 15 < 16) := by decide +kernel

/-- For `TablesAreWellFormed`: a configuration of either kind. -/
theorem witness_configurations :
    Config.wellFormed { Config.fce with base := 0 } = true ∧ Config.wellFormed { Config.fce with base := 4 } = false := by
  decide +kernel

/-- For `KeyParityIsIgnored`, V-KS3: two keys that differ in every parity bit and in no other. -/
theorem witness_parity_keys :
    ∀ i, i < 64 → i % 8 ≠ 0 → (0x133457799BBCDFF1#64).getLsbD i = (0x123456789ABCDEF0#64).getLsbD i := by decide +kernel

/-- For `HalvesReturnAndWeakKeys`: its keys, and that their halves are the expected ones (V-KS2). -/
theorem witness_weak_key :
    0x1F1F1F1F0E0E0E0E#64 ∈
        [0x0101010101010101#64, 0xFEFEFEFEFEFEFEFE#64, 0x1F1F1F1F0E0E0E0E#64, 0xE0E0E0E0F1F1F1F1#64] ∧
      (keySchedule Config.fce 0x1F1F1F1F0E0E0E0E#64)[15] = 0x000000FFFFFF#48 := by decide +kernel

/-- For `PalindromicKeysAreInvolutions`: the round keys of a weak key (V-KS2). -/
theorem witness_palindromic_keys :
    ∀ r : Fin 16, (Vector.replicate 16 0x000000FFFFFF#48 : KeyFile)[r.val] =
      (Vector.replicate 16 0x000000FFFFFF#48 : KeyFile)[15 - r.val] := by decide

/-- A table set whose IP exchanges the halves and whose FP moves nothing. -/
def swappingTables : Config :=
  { Config.fce with
    tables := { desStd with
      ip := (List.range 64).map fun i => (i + 32) % 64 + 1, fp := (List.range 64).map fun i => i + 1 } }

/-- For `DecryptUndoesEncrypt` and `PalindromicKeysAreInvolutions`: a configuration that meets their premise on IP and
FP. -/
theorem witness_swapping_tables (y : Block) :
    initialPermutation swappingTables (finalPermutation swappingTables y) = swap32 y := by
  apply BitVec.eq_of_getMsbD_eq
  intro i hi
  have hf : ∀ j, j < 64 → (finalPermutation swappingTables y).getMsbD j = y.getMsbD j := fun j hj => by
    rw [finalPermutation, permute_getMsbD _ _ (by decide) j hj]
    congr 1
    revert j; decide +kernel
  have hi' : (initialPermutation swappingTables (finalPermutation swappingTables y)).getMsbD i =
      y.getMsbD ((i + 32) % 64) := by
    rw [initialPermutation, permute_getMsbD _ _ (by decide) i hi, ← hf _ (Nat.mod_lt _ (by decide))]
    congr 1
    revert i; decide +kernel
  rw [hi']
  rw [BitVec.getMsbD_eq_getLsbD, BitVec.getMsbD_eq_getLsbD, swap32_getLsbD _ _ (by omega)]
  have h : 64 - 1 - (i + 32) % 64 = (64 - 1 - i + 32) % 64 := by omega
  simp [hi, h, Nat.mod_lt]

/-- For `EveryStepKeepsTheInvariant`, `NoStepStopsUnderTheInvariant` and `WaitTerminates`: an idle engine, a fresh
ENCRYPT, and KEYSET before its last round and its final step. -/
theorem witness_invariant :
    (machine keyed [.wait []]).Inv ∧ (machine encrypting [.wait []]).Inv ∧
      (machine (keysetAtRound 15 0xF866557#28 0xAAB33C7#28 katKeys) []).Inv ∧
      (machine { keysetAtRound 16 0xF0CCAAF#28 0x556678F#28 katKeys with phase := .final } []).Inv ∧
      (after (machine encrypting [])).isSome = true := by
  refine ⟨⟨?_, ?_, ?_⟩, ⟨?_, ?_, ?_⟩, ⟨?_, ?_, ?_⟩, ⟨?_, ?_, ?_⟩, ?_⟩ <;> decide +kernel

/-- For `EveryStepKeepsKeyValidTruthful`: a loaded key, and a KEYSET about to write its second round key. -/
theorem witness_keys_agree :
    keyed.KeysAgree Config.fce ∧
      (keysetAtRound 1 0xE19955F#28 0xAACCF1E#28 (Engine.reset.rk.set 0 0x1B02EFFC7072#48)).KeysAgree Config.fce := by
  refine ⟨⟨fun _ => ⟨0x133457799BBCDFF1#64, ?_⟩, ?_⟩, ?_, fun _ _ => ⟨0x133457799BBCDFF1#64, ?_, ?_⟩⟩ <;>
    decide +kernel

/-- For `RoundKeysWrittenByKeysetAndResetAlone`, `OutputWrittenByFinalStepsAndResetAlone` and
`CmdAndErrWrittenAtAcceptanceAlone`: steps that write RK, DOUT, CMD and ERR. -/
theorem witness_writers :
    (after (machine (keysetAtRound 0 0xF0CCAAF#28 0x556678F#28 Engine.reset.rk) [.controller])).map (·.rk) ≠
        some Engine.reset.rk ∧
      (after (machine keyed [.reset])).map (·.rk) ≠ some keyed.rk ∧
      (after (machine permuting [])).map (·.dout0) ≠ some permuting.dout0 ∧
      (after (machine { encrypting with l := 0x43423234#32, r := 0x0A4CD995#32, rnd := 16#5, x := 0#64,
                                        phase := .final } [])).map (·.dout1) = some 0x85E81354#32 ∧
      (after (machine keyed [cmdWrite 0#32])).map (·.status.err) = some 5#4 ∧
      (after (machine keyed [cmdWrite 0x08080002#32])).map (·.cmd) ≠ some keyed.cmd := by decide +kernel

/-- For `ReadsRevealNoKeyMaterial`: two engines with other keys that look alike. -/
theorem witness_same_reads :
    Engine.sameReads keyed { keyed with rk := Engine.reset.rk, key0 := 1#32, din0 := 0#32 } ∧
      answer (machine keyed [.access (.read32 0x10)]) = some (.data 0#32) := by decide

/-- For `WaitTerminates` (its invariant is in `witness_invariant`): polls that must come again, with no list, with a poll
at once, and with turns that outlast the command. -/
theorem witness_wait :
    (machine encrypting [.wait []]).events = .wait [] :: [] ∧
      (machine encrypting [.wait [0, 100]]).events = .wait [0, 100] :: [] ∧
      answer (machine encrypting [.wait []]) = some (.data 0x00000005#32) ∧
      answer (machine encrypting [.wait [0, 100]]) = some (.data 0x00000005#32) := by decide

/-- For `PseudoInstructionExpansions`: a little-endian configuration, and V-KAT's output word read by `getdout`. -/
theorem witness_getdout :
    Config.fce.byteOrder = .le ∧ outputWord Config.fce 0x0F0AB405#32 0x85E81354#32 = 0x85E813540F0AB405#64 := by decide

end Sys2Proof.Tests
end

section
/-! SUPPORT. The command word read back from its fields (30_encoding.md R90), the outcome of a CMD write
(60_exceptions.md R251) by cases, and the engine after one step as one of four effects. -/

namespace Sys2Proof.Machine

open Sys2Proof

/-! ### The word of a decoded command -/

/-- A word whose RSVD is 0 is the command word of its own fields (30_encoding.md R90). -/
theorem commandWord_of_fields {v : Word} (h : rsvdField v = 0#8) :
    commandWord (opcodeField v) (inLenField v) (outLenField v) = v := by
  have hr : v.toNat / 2 ^ 8 % 2 ^ 8 = 0 := by
    rw [← toNat_field 8 8 v]
    exact congrArg BitVec.toNat h
  have hv := v.isLt
  apply BitVec.eq_of_toNat_eq
  simp only [commandWord, opcodeField, inLenField, outLenField, toNat_append_add, toNat_field, BitVec.toNat_ofNat]
  omega

/-- The command an opcode selects has that opcode and the two lengths it was given. -/
theorem fields_of_decodeOpcode {op n m : Byte} {i : Instr} (h : decodeOpcode op n m = some i) :
    i.opcode = op ∧ i.inLen = n ∧ i.outLen = m := by
  unfold decodeOpcode at h
  repeat' split at h
  all_goals cases h
  all_goals exact ⟨Eq.symm ‹op = _›, rfl, rfl⟩

/-- A word is the encoding of the command it decodes to (30_encoding.md R94). -/
theorem encode_of_decode_eq_some {v : Word} {i : Instr} (h : decode v = some i) : encode i = v := by
  unfold decode at h
  split at h
  · rename_i hr
    obtain ⟨hop, hin, hout⟩ := fields_of_decodeOpcode h
    rw [encode, hop, hin, hout, commandWord_of_fields hr]
  · cases h

/-! ### The outcome of a CMD write -/

/-- What the write of v to CMD can leave of the engine e (60_exceptions.md R251): dropped while BUSY, rejected, or
started with the operands of its command latched. -/
inductive CommandOutcome (cfg : Config) (v : Word) (e : Engine) : Engine → Prop
  /-- R255: dropped while BUSY. -/
  | dropped (hb : e.status.busy = true) : CommandOutcome cfg v e { e with status := e.status.dropped }
  /-- R252: accepted and rejected. -/
  | rejected (hb : e.status.busy = false) (c : ErrorCode) :
      CommandOutcome cfg v e { e with cmd := v, status := e.status.accepted.rejected c }
  /-- KEYSET has started. -/
  | keyset (hb : e.status.busy = false) :
      CommandOutcome cfg v e (latchKey cfg { e with cmd := v, status := e.status.accepted.started })
  /-- ENCRYPT or DECRYPT has started, which needs a loaded key (R253). -/
  | cipher (hb : e.status.busy = false) (dir : KeyOrder) (hk : e.status.keyValid = true) :
      CommandOutcome cfg v e
        (latchBlock cfg dir.opcode .init { e with cmd := v, status := e.status.accepted.started })
  /-- PERM_IP or PERM_FP has started. -/
  | perm (hb : e.status.busy = false) (op : Byte) (ho : op ∈ [opPermIp, opPermFp]) :
      CommandOutcome cfg v e (latchBlock cfg op .perm { e with cmd := v, status := e.status.accepted.started })

/-- The issue of a command has one of the outcomes when its start has. -/
theorem CommandOutcome.of_issueCommand {cfg : Config} {v : Word} {e : Engine} {check : Option ErrorCode}
    {latch : Engine → Engine}
    (hstart : e.status.busy = false → check = none →
      CommandOutcome cfg v e (latch { e with cmd := v, status := e.status.accepted.started })) :
    CommandOutcome cfg v e (issueCommand v check latch e) := by
  obtain ⟨hb, h⟩ | ⟨hb, c, -, h⟩ | ⟨hb, hc, h⟩ := issueCommand_cases v check latch e
  · exact h ▸ .dropped hb
  · exact h ▸ .rejected hb c
  · exact h ▸ hstart hb hc

/-- The checks of ENCRYPT and DECRYPT pass only with a key loaded (60_exceptions.md R253). -/
theorem keyValid_of_checkCipher {n m : Byte} {kv : Bool} (h : checkCipher n m kv = none) : kv = true := by
  obtain ⟨-, -, hk⟩ := (checkCipher_eq_none n m kv).mp h
  exact hk

/-- The issue of an instruction has one of the outcomes of writing its word. -/
theorem issueOf_outcome (cfg : Config) (i : Instr) (e : Engine) :
    CommandOutcome cfg (encode i) e (issueOf cfg i e) := by
  cases i with
  | keyset n m => exact .of_issueCommand fun hb _ => .keyset hb
  | encrypt n m => exact .of_issueCommand fun hb hc => .cipher hb .enc (keyValid_of_checkCipher hc)
  | decrypt n m => exact .of_issueCommand fun hb hc => .cipher hb .dec (keyValid_of_checkCipher hc)
  | permIp n m => exact .of_issueCommand fun hb _ => .perm hb opPermIp (by decide)
  | permFp n m => exact .of_issueCommand fun hb _ => .perm hb opPermFp (by decide)

/-- Every CMD write, of a defined or an illegal word, has one of the outcomes. -/
theorem commandEngine_outcome (cfg : Config) (v : Word) (e : Engine) :
    CommandOutcome cfg v e (commandEngine cfg v e) := by
  unfold commandEngine
  cases hd : decode v with
  | none => exact .of_issueCommand fun _ hc => nomatch hc
  | some i => exact encode_of_decode_eq_some hd ▸ issueOf_outcome cfg i e

/-! ### One step of the machine -/

/-- The engine after one step: reset, what a CMD write leaves, the controller's next state, or a register write other
than CMD's. Every event that leaves the engine as it was is of the last kind: a write of STATUS changes nothing
(20_memory.md R69). -/
theorem step_effect {s t : State} (h : step s = .next t) :
    (∃ rest, s.events = .reset :: rest ∧ t.engine = Engine.reset) ∨
    (∃ v rest, s.events = .access (.write32 0x00 v) :: rest ∧ t.engine = commandEngine Config.fce v s.engine) ∨
    (ControllerIsNext s ∧ controllerStep Config.fce s.engine = some t.engine) ∨
    (∃ r v, t.engine = writeReg r v s.engine) := by
  obtain hsame | ⟨_, v, r, _, _, _, _, he⟩ | ⟨v, i, rest, hev, hd, he⟩ | ⟨v, rest, hev, hd, he⟩ | hctl | hreset :=
    step_engine_cases h
  · exact .inr (.inr (.inr ⟨.status, 0#32, hsame⟩))
  · exact .inr (.inr (.inr ⟨r, v, he⟩))
  · exact .inr (.inl ⟨v, rest, hev, by simp [commandEngine, hd, he]⟩)
  · exact .inr (.inl ⟨v, rest, hev, by simp [commandEngine, hd, he]⟩)
  · exact .inr (.inr (.inl hctl))
  · exact .inl hreset

/-- A property of the engine that reset has, and that register writes, CMD writes and controller steps keep, is kept by
every step of the machine. -/
theorem step_keeps {P : Engine → Prop} (hreset : P Engine.reset) (hwrite : ∀ r v e, P e → P (writeReg r v e))
    (hcommand : ∀ v e e', P e → CommandOutcome Config.fce v e e' → P e')
    (hcontroller : ∀ e e', P e → controllerStep Config.fce e = some e' → P e') {s t : State} (hP : P s.engine)
    (h : step s = .next t) : P t.engine := by
  obtain ⟨_, _, he⟩ | ⟨v, _, _, he⟩ | ⟨_, hc⟩ | ⟨r, v, he⟩ := step_effect h
  · exact he ▸ hreset
  · exact he ▸ hcommand v _ _ hP (commandEngine_outcome _ v _)
  · exact hcontroller _ _ hP hc
  · exact he ▸ hwrite r v _ hP

end Sys2Proof.Machine
end

section
/-! SUPPORT. The invariant (10_state.md R51) PHASE by PHASE, and that CMD writes and controller steps keep it. -/

namespace Sys2Proof.Machine

open Sys2Proof

/-! ### The invariant in each PHASE -/

/-- KEY_VALID as the opcode of the running command needs it (10_state.md R37, 60_exceptions.md R253). -/
def Engine.KeyFlagFits (e : Engine) : Prop :=
  (e.op = opKeyset → e.status.keyValid = false) ∧ (e.op ∈ [opEncrypt, opDecrypt] → e.status.keyValid = true)

/-- STATUS while a command runs (10_state.md R35, R36, R39). -/
def Status.Running (st : Status) : Prop := st.busy = true ∧ st.done = false ∧ st.err = 0#4

/-- The invariant in IDLE. -/
theorem inv_idle_iff {e : Engine} (hp : e.phase = .idle) :
    e.Inv ↔ e.status.busy = false ∧ e.status.err.toNat ≤ 5 ∧ e.rnd = 0#5 ∧ e.x = 0#64 ∧ e.l = 0#32 ∧ e.r = 0#32 ∧
      e.c = 0#28 ∧ e.d = 0#28 := by
  simp only [Engine.Inv, Engine.Consistent, Engine.LegalController, Engine.FlagsAgree, hp]
  grind

/-- The invariant before the first step of KEYSET, ENCRYPT or DECRYPT. -/
theorem inv_init_iff {e : Engine} (hp : e.phase = .init) :
    e.Inv ↔ e.status.Running ∧ e.KeyFlagFits ∧ e.op ∈ [opKeyset, opEncrypt, opDecrypt] ∧ e.rnd = 0#5 ∧
      e.c = 0#28 ∧ e.d = 0#28 ∧ e.l = 0#32 ∧ e.r = 0#32 := by
  simp only [Engine.Inv, Engine.Consistent, Engine.LegalController, Engine.FlagsAgree, hp, Status.Running,
    Engine.KeyFlagFits]
  grind

/-- The invariant before a round or the last step of KEYSET, ENCRYPT or DECRYPT. -/
theorem inv_iterating_iff {e : Engine} (hp : e.phase = .round ∨ e.phase = .final) :
    e.Inv ↔ e.status.Running ∧ e.KeyFlagFits ∧ e.op ∈ [opKeyset, opEncrypt, opDecrypt] ∧ e.x = 0#64 ∧
      (e.phase = .round → e.rnd.toNat ≤ 15) ∧ (e.phase = .final → e.rnd.toNat = 16) ∧
      (e.op = opKeyset ∨ e.c = 0#28 ∧ e.d = 0#28) ∧ (e.op ∈ [opEncrypt, opDecrypt] ∨ e.l = 0#32 ∧ e.r = 0#32) := by
  simp only [Engine.Inv, Engine.Consistent, Engine.LegalController, Engine.FlagsAgree, Status.Running,
    Engine.KeyFlagFits]
  grind

/-- The invariant before the one step of PERM_IP or PERM_FP. -/
theorem inv_perm_iff {e : Engine} (hp : e.phase = .perm) :
    e.Inv ↔ e.status.Running ∧ e.op ∈ [opPermIp, opPermFp] ∧ e.rnd = 0#5 ∧
      e.c = 0#28 ∧ e.d = 0#28 ∧ e.l = 0#32 ∧ e.r = 0#32 := by
  simp only [Engine.Inv, Engine.Consistent, Engine.LegalController, Engine.FlagsAgree, hp, Status.Running,
    opKeyset, opEncrypt, opDecrypt, opPermIp, opPermFp]
  grind

/-- Outside a command the controller is in IDLE. -/
theorem idle_of_not_busy {e : Engine} (hi : e.Inv) (hb : e.status.busy = false) : e.phase = .idle := by
  obtain ⟨⟨hbusy, -⟩, -⟩ := hi
  by_contra hp
  exact Bool.false_ne_true (hb.symm.trans (hbusy.mpr hp))

/-- Outside a command the halves hold nothing. -/
theorem halves_clear_of_not_busy {e : Engine} (hi : e.Inv) (hb : e.status.busy = false) :
    e.c = 0#28 ∧ e.d = 0#28 ∧ e.l = 0#32 ∧ e.r = 0#32 := by
  obtain ⟨-, -, -, -, hl, hr, hc, hd⟩ := (inv_idle_iff (idle_of_not_busy hi hb)).mp hi
  exact ⟨hc, hd, hl, hr⟩

/-! ### CMD writes -/

/-- An opcode that selects a key order is ENCRYPT's or DECRYPT's. -/
theorem mem_of_opcode {op : Byte} {dir : KeyOrder} (ho : op = dir.opcode) : op ∈ [opEncrypt, opDecrypt] := by
  subst ho; cases dir <;> decide

/-- An opcode that selects a key order is not KEYSET's. -/
theorem ne_opKeyset {op : Byte} {dir : KeyOrder} (ho : op = dir.opcode) : op ≠ opKeyset := by
  subst ho; cases dir <;> decide

/-- KEYSET runs with KEY_VALID 0. -/
theorem keyFlagFits_keyset {e : Engine} (ho : e.op = opKeyset) (hk : e.status.keyValid = false) : e.KeyFlagFits :=
  ⟨fun _ => hk, fun h => absurd (ho ▸ h) (by decide)⟩

/-- ENCRYPT and DECRYPT run with KEY_VALID 1. -/
theorem keyFlagFits_cipher {e : Engine} {dir : KeyOrder} (ho : e.op = dir.opcode) (hk : e.status.keyValid = true) :
    e.KeyFlagFits :=
  ⟨fun h => absurd h (ne_opKeyset ho), fun _ => hk⟩

/-- Every outcome of a CMD write keeps the invariant. -/
theorem CommandOutcome.inv {cfg : Config} {v : Word} {e e' : Engine} (h : CommandOutcome cfg v e e') (hi : e.Inv) :
    e'.Inv := by
  cases h with
  | dropped hb => exact hi
  | rejected hb c =>
    have hp := idle_of_not_busy hi hb
    obtain ⟨-, -, hregs⟩ := (inv_idle_iff hp).mp hi
    obtain ⟨-, hcode⟩ := c.code_range
    exact (inv_idle_iff (by exact hp)).mpr ⟨hb, hcode, hregs⟩
  | keyset hb =>
    have hclear := halves_clear_of_not_busy hi hb
    exact (inv_init_iff rfl).mpr
      ⟨⟨rfl, rfl, rfl⟩, keyFlagFits_keyset rfl rfl, List.mem_cons_self, rfl, hclear⟩
  | cipher hb dir hk =>
    have hclear := halves_clear_of_not_busy hi hb
    exact (inv_init_iff rfl).mpr
      ⟨⟨rfl, rfl, rfl⟩, keyFlagFits_cipher rfl hk, List.mem_cons_of_mem _ (mem_of_opcode rfl), rfl, hclear⟩
  | perm hb op ho =>
    have hclear := halves_clear_of_not_busy hi hb
    exact (inv_perm_iff rfl).mpr ⟨⟨rfl, rfl, rfl⟩, ho, rfl, hclear⟩

/-! ### Controller steps -/

/-- A ROUND step of KEYSET rotates the halves, stores a round key and counts. -/
theorem keysetRound_eq (cfg : Config) (r : Fin 16) (e : Engine) :
    keysetRound cfg r e = advanceRound r { e with
      c := (rotateHalves cfg r.val (e.c, e.d)).1, d := (rotateHalves cfg r.val (e.c, e.d)).2
      rk := e.rk.set r.val (compressKey cfg (rotateHalves cfg r.val (e.c, e.d))) r.isLt } := rfl

/-- A ROUND step of ENCRYPT or DECRYPT moves the halves and counts. -/
theorem cipherRound_eq (cfg : Config) (dir : KeyOrder) (r : Fin 16) (e : Engine) :
    cipherRound cfg dir r e = advanceRound r { e with
      l := (feistelRound cfg (roundKey dir e.rk r) (e.l, e.r)).1
      r := (feistelRound cfg (roundKey dir e.rk r) (e.l, e.r)).2 } := rfl

/-- RND after a round is one more: r + 1 is at most 16, so it fits (10_state.md R47). -/
theorem advanceRound_rnd_toNat (r : Fin 16) (e : Engine) : (advanceRound r e).rnd.toNat = r.val + 1 := by
  rw [advanceRound_rnd, BitVec.toNat_ofNat]
  omega

/-- After a round the controller is in ROUND, or in FINAL when it was the last one. -/
theorem advanceRound_phase_cases (r : Fin 16) (e : Engine) :
    (advanceRound r e).phase = .final ∧ r.val = 15 ∨ (advanceRound r e).phase = .round ∧ r.val < 15 := by
  rw [advanceRound_phase]
  split
  · exact .inl ⟨rfl, by omega⟩
  · exact .inr ⟨rfl, by omega⟩

/-- Counting the round keeps the invariant. -/
theorem inv_advanceRound {e : Engine} (hp : e.phase = .round) (hi : e.Inv) (r : Fin 16) : (advanceRound r e).Inv := by
  obtain ⟨hrun, hkey, hop, hx, -, -, hcd, hlr⟩ := (inv_iterating_iff (.inl hp)).mp hi
  have hrnd := advanceRound_rnd_toNat r e
  obtain ⟨hp', hr⟩ | ⟨hp', hr⟩ := advanceRound_phase_cases r e
  · have hround : (advanceRound r e).phase ≠ .round := by rw [hp']; decide
    exact (inv_iterating_iff (.inr hp')).mpr
      ⟨hrun, hkey, hop, hx, fun h => absurd h hround, fun _ => by omega, hcd, hlr⟩
  · have hfinal : (advanceRound r e).phase ≠ .final := by rw [hp']; decide
    exact (inv_iterating_iff (.inl hp')).mpr
      ⟨hrun, hkey, hop, hx, fun _ => by omega, fun h => absurd h hfinal, hcd, hlr⟩

/-- Finishing a command keeps the invariant, once its hidden registers are cleared (10_state.md R51). -/
theorem inv_finishCommand {e : Engine} (hrun : e.status.Running) (hrnd : e.rnd = 0#5) (hx : e.x = 0#64)
    (hcd : e.c = 0#28 ∧ e.d = 0#28) (hlr : e.l = 0#32 ∧ e.r = 0#32) : (finishCommand e).Inv := by
  obtain ⟨-, -, herr⟩ := hrun
  obtain ⟨hc, hd⟩ := hcd
  obtain ⟨hl, hr⟩ := hlr
  exact (inv_idle_iff rfl).mpr ⟨rfl, by simp [herr], hrnd, hx, hl, hr, hc, hd⟩

/-- The engine after reset meets the invariant (10_state.md R52). -/
theorem reset_inv : Engine.reset.Inv := (inv_idle_iff rfl).mpr (by decide)

/-- Every controller step keeps the invariant (44_block_transform.md R211). -/
theorem controllerStep_inv {cfg : Config} {e e' : Engine} (h : controllerStep cfg e = some e') (hi : e.Inv) :
    e'.Inv := by
  obtain ⟨-, rfl⟩ | ⟨hp, ho, rfl⟩ | ⟨hp, ⟨dir, ho⟩, rfl⟩ | ⟨hp, ho, r, -, rfl⟩ | ⟨hp, dir, ho, r, -, rfl⟩ |
    ⟨hp, ho, rfl⟩ | ⟨hp, ⟨dir, ho⟩, rfl⟩ | ⟨hp, -, rfl⟩ | ⟨hp, -, rfl⟩ := controllerStep_cases h
  · -- IDLE
    exact hi
  · -- KEYSET, INIT
    obtain ⟨hrun, hkey, hop, hrnd, -, -, hlr⟩ := (inv_init_iff hp).mp hi
    exact (inv_iterating_iff (.inl rfl)).mpr
      ⟨hrun, hkey, hop, rfl, fun _ => by simp [keysetInit, hrnd], nofun, .inl ho, .inr hlr⟩
  · -- ENCRYPT and DECRYPT, INIT
    obtain ⟨hrun, hkey, hop, hrnd, hc, hd, -⟩ := (inv_init_iff hp).mp hi
    exact (inv_iterating_iff (.inl rfl)).mpr
      ⟨hrun, hkey, hop, rfl, fun _ => by simp [cipherInit, hrnd], nofun, .inr ⟨hc, hd⟩, .inl (mem_of_opcode ho)⟩
  · -- KEYSET, ROUND
    obtain ⟨hrun, hkey, hop, hx, hround, hfinal, -, hlr⟩ := (inv_iterating_iff (.inl hp)).mp hi
    rw [keysetRound_eq]
    refine inv_advanceRound (by exact hp) ?_ r
    exact (inv_iterating_iff (.inl (by exact hp))).mpr
      ⟨hrun, hkey, hop, hx, hround, hfinal, .inl ho, hlr⟩
  · -- ENCRYPT and DECRYPT, ROUND
    obtain ⟨hrun, hkey, hop, hx, hround, hfinal, hcd, -⟩ := (inv_iterating_iff (.inl hp)).mp hi
    rw [cipherRound_eq]
    refine inv_advanceRound (by exact hp) ?_ r
    exact (inv_iterating_iff (.inl (by exact hp))).mpr
      ⟨hrun, hkey, hop, hx, hround, hfinal, hcd, .inl (mem_of_opcode ho)⟩
  · -- KEYSET, FINAL
    obtain ⟨hrun, -, -, hx, -, -, -, hlr⟩ := (inv_iterating_iff (.inr hp)).mp hi
    exact inv_finishCommand hrun rfl hx ⟨rfl, rfl⟩ (hlr.resolve_left (by rw [ho]; decide))
  · -- ENCRYPT and DECRYPT, FINAL
    obtain ⟨hrun, -, -, hx, -, -, hcd, -⟩ := (inv_iterating_iff (.inr hp)).mp hi
    exact inv_finishCommand hrun rfl hx (hcd.resolve_left (ne_opKeyset ho)) ⟨rfl, rfl⟩
  · -- PERM_IP
    obtain ⟨hrun, -, hrnd, hc, hd, hlr⟩ := (inv_perm_iff hp).mp hi
    exact inv_finishCommand hrun hrnd rfl ⟨hc, hd⟩ hlr
  · -- PERM_FP
    obtain ⟨hrun, -, hrnd, hc, hd, hlr⟩ := (inv_perm_iff hp).mp hi
    exact inv_finishCommand hrun hrnd rfl ⟨hc, hd⟩ hlr

/-- A register write keeps the invariant, which asks nothing of DIN and KEY. -/
theorem writeReg_inv (r : Reg) (v : Word) {e : Engine} (hi : e.Inv) : (writeReg r v e).Inv := by
  cases r <;> exact hi

/-- Every step of the machine keeps the invariant. -/
theorem step_inv {s t : State} (h : step s = .next t) (hi : s.Inv) : t.Inv :=
  step_keeps (P := Engine.Inv) reset_inv (fun r v _ he => writeReg_inv r v he) (fun _ _ _ he ho => ho.inv he)
    (fun _ _ he hc => controllerStep_inv hc he) hi h

end Sys2Proof.Machine
end

section
/-! SUPPORT. That KEY_VALID is truthful (10_state.md R37) is kept by every step. -/

namespace Sys2Proof.Machine

open Sys2Proof

/-- What the round-key file holds is kept by a change that leaves RK and KEY_VALID alone and after which no KEYSET is in
a ROUND or FINAL step. -/
theorem Engine.KeysAgree.of_frame {cfg : Config} {e e' : Engine} (h : e.KeysAgree cfg) (hrk : e'.rk = e.rk)
    (hkv : e'.status.keyValid = e.status.keyValid) (hks : e'.op = opKeyset → ¬(e'.phase = .round ∨ e'.phase = .final)) :
    e'.KeysAgree cfg := by
  obtain ⟨hfile, -⟩ := h
  exact ⟨by rwa [hrk, hkv], fun ho hp => absurd hp (hks ho)⟩

/-- Every outcome of a CMD write keeps what the round-key file holds. -/
theorem CommandOutcome.keysAgree {cfg : Config} {v : Word} {e e' : Engine} (h : CommandOutcome cfg v e e')
    (hk : e.KeysAgree cfg) : e'.KeysAgree cfg := by
  cases h with
  | dropped hb => exact hk
  | rejected hb c => exact hk
  | keyset hb => exact ⟨by simp, by simp⟩
  | cipher hb dir hkv => exact hk.of_frame rfl rfl (by simp)
  | perm hb op ho => exact hk.of_frame rfl rfl (by simp)

/-- A finished schedule is KS of its key, when each slot is its round key. -/
theorem eq_keySchedule_of_forall {cfg : Config} {k : Block} {rk : KeyFile}
    (h : ∀ i : Fin 16, rk[i] = scheduledKey cfg k i.val) : rk = keySchedule cfg k := by
  apply Vector.ext
  intro i hi
  simpa [keySchedule] using h ⟨i, hi⟩

/-- The INIT step of KEYSET splits the key it latched (42_round_key_schedule.md R152). -/
theorem keysetInit_keysAgree {cfg : Config} {e : Engine} (hk : e.KeysAgree cfg) (hrnd : e.rnd = 0#5) :
    (keysetInit cfg e).KeysAgree cfg := by
  obtain ⟨hfile, -⟩ := hk
  refine ⟨hfile, fun _ _ => ⟨e.x, ?_, ?_⟩⟩ <;> simp [keysetInit, hrnd, keyHalves]

/-- The ROUND step of KEYSET rotates its halves once more and fills slot RND (42_round_key_schedule.md R154, R156). -/
theorem keysetRound_keysAgree {cfg : Config} {e : Engine} (hk : e.KeysAgree cfg) (hp : e.phase = .round)
    (ho : e.op = opKeyset) (hkv : e.status.keyValid = false) (r : Fin 16) (hr : e.rnd.toNat = r.val) :
    (keysetRound cfg r e).KeysAgree cfg := by
  obtain ⟨-, hpartial⟩ := hk
  obtain ⟨k, hcd, hslots⟩ := hpartial ho (.inl hp)
  rw [hr] at hcd hslots
  rw [keysetRound_eq]
  refine ⟨by simp [hkv], fun _ _ => ⟨k, ?_, ?_⟩⟩
  · rw [advanceRound_rnd_toNat]
    simp [hcd, keyHalves]
  · intro i hi
    rw [advanceRound_rnd_toNat] at hi
    simp only [advanceRound_rk, Fin.getElem_fin, Vector.getElem_set]
    split
    · rename_i hri
      rw [← hri, hcd]
      rfl
    · exact hslots i (by omega)

/-- The FINAL step of KEYSET sets KEY_VALID over sixteen filled slots (42_round_key_schedule.md R158). -/
theorem keysetFinal_keysAgree {cfg : Config} {e : Engine} (hk : e.KeysAgree cfg) (hp : e.phase = .final)
    (ho : e.op = opKeyset) (hrnd : e.rnd.toNat = 16) : (keysetFinal e).KeysAgree cfg := by
  obtain ⟨-, hpartial⟩ := hk
  obtain ⟨k, -, hslots⟩ := hpartial ho (.inr hp)
  exact ⟨fun _ => ⟨k, eq_keySchedule_of_forall fun i => hslots i (by omega)⟩, by simp [keysetFinal]⟩

/-- Every controller step keeps what the round-key file holds, under the invariant. -/
theorem controllerStep_keysAgree {cfg : Config} {e e' : Engine} (h : controllerStep cfg e = some e') (hi : e.Inv)
    (hk : e.KeysAgree cfg) : e'.KeysAgree cfg := by
  obtain ⟨-, rfl⟩ | ⟨hp, ho, rfl⟩ | ⟨hp, ⟨dir, ho⟩, rfl⟩ | ⟨hp, ho, r, hr, rfl⟩ | ⟨hp, dir, ho, r, -, rfl⟩ |
    ⟨hp, ho, rfl⟩ | ⟨hp, ⟨dir, ho⟩, rfl⟩ | ⟨hp, ho, rfl⟩ | ⟨hp, ho, rfl⟩ := controllerStep_cases h
  · -- IDLE
    exact hk
  · -- KEYSET, INIT
    obtain ⟨-, -, -, hrnd, -⟩ := (inv_init_iff hp).mp hi
    exact keysetInit_keysAgree hk hrnd
  · -- ENCRYPT and DECRYPT, INIT
    exact hk.of_frame rfl rfl fun hks => absurd hks (ne_opKeyset ho)
  · -- KEYSET, ROUND
    obtain ⟨-, ⟨hkv, -⟩, -⟩ := (inv_iterating_iff (.inl hp)).mp hi
    exact keysetRound_keysAgree hk hp ho (hkv ho) r hr
  · -- ENCRYPT and DECRYPT, ROUND
    exact hk.of_frame rfl rfl fun hks => absurd hks (ne_opKeyset ho)
  · -- KEYSET, FINAL
    obtain ⟨-, -, -, -, -, hfinal, -⟩ := (inv_iterating_iff (.inr hp)).mp hi
    exact keysetFinal_keysAgree hk hp ho (hfinal hp)
  · -- ENCRYPT and DECRYPT, FINAL
    exact hk.of_frame rfl rfl fun hks => absurd hks (ne_opKeyset ho)
  · -- PERM_IP
    exact hk.of_frame rfl rfl fun _ => by simp [permIpStep]
  · -- PERM_FP
    exact hk.of_frame rfl rfl fun _ => by simp [permFpStep]

/-- After reset no key is loaded and no KEYSET runs. -/
theorem reset_keysAgree (cfg : Config) : Engine.reset.KeysAgree cfg := ⟨nofun, fun _ hp => absurd hp (by decide)⟩

/-- A register write keeps what the round-key file holds. -/
theorem writeReg_keysAgree {cfg : Config} (r : Reg) (v : Word) {e : Engine} (hk : e.KeysAgree cfg) :
    (writeReg r v e).KeysAgree cfg := by
  cases r <;> exact hk

/-- Every step of the machine keeps what the round-key file holds, together with the invariant it needs. -/
theorem step_keysAgree {s t : State} (h : step s = .next t) (hi : s.Inv) (hk : s.engine.KeysAgree Config.fce) :
    t.engine.KeysAgree Config.fce := by
  have hboth : t.engine.Inv ∧ t.engine.KeysAgree Config.fce :=
    step_keeps (P := fun e => e.Inv ∧ e.KeysAgree Config.fce) ⟨reset_inv, reset_keysAgree _⟩
      (fun r v _ ⟨hi, hk⟩ => ⟨writeReg_inv r v hi, writeReg_keysAgree r v hk⟩)
      (fun _ _ _ ⟨hi, hk⟩ ho => ⟨ho.inv hi, ho.keysAgree hk⟩)
      (fun _ _ ⟨hi, hk⟩ hc => ⟨controllerStep_inv hc hi, controllerStep_keysAgree hc hi hk⟩) ⟨hi, hk⟩ h
  exact hboth.right

end Sys2Proof.Machine
end

section
/-! SUPPORT. Which steps write DOUT, CMD and ERR (10_state.md R33, R39, R43), and the layout of STATUS (R34). -/

namespace Sys2Proof.Machine

open Sys2Proof

/-! ### Who writes DOUT, CMD and ERR -/

/-- A CMD write leaves DOUT alone. -/
theorem CommandOutcome.dout {cfg : Config} {v : Word} {e e' : Engine} (h : CommandOutcome cfg v e e') :
    e'.dout0 = e.dout0 ∧ e'.dout1 = e.dout1 := by
  cases h <;> exact ⟨rfl, rfl⟩

/-- A register write leaves DOUT, CMD and ERR alone. -/
theorem writeReg_frame (r : Reg) (v : Word) (e : Engine) :
    (writeReg r v e).dout0 = e.dout0 ∧ (writeReg r v e).dout1 = e.dout1 ∧ (writeReg r v e).cmd = e.cmd ∧
      (writeReg r v e).status = e.status := by
  cases r <;> exact ⟨rfl, rfl, rfl, rfl⟩

/-- A controller step leaves CMD and ERR alone. -/
theorem controllerStep_cmd_err {cfg : Config} {e e' : Engine} (h : controllerStep cfg e = some e') :
    e'.cmd = e.cmd ∧ e'.status.err = e.status.err := by
  obtain ⟨-, rfl⟩ | ⟨-, -, rfl⟩ | ⟨-, -, rfl⟩ | ⟨-, -, _, -, rfl⟩ | ⟨-, _, -, _, -, rfl⟩ | ⟨-, -, rfl⟩ | ⟨-, -, rfl⟩ |
    ⟨-, -, rfl⟩ | ⟨-, -, rfl⟩ := controllerStep_cases h <;> exact ⟨rfl, rfl⟩

/-- A CMD write while BUSY leaves CMD and ERR alone, and an accepted one leaves its word in CMD. -/
theorem CommandOutcome.cmd_err {cfg : Config} {v : Word} {e e' : Engine} (h : CommandOutcome cfg v e e') :
    e'.cmd = e.cmd ∧ e'.status.err = e.status.err ∨ e.status.busy = false ∧ e'.cmd = v := by
  cases h with
  | dropped hb => exact .inl ⟨rfl, rfl⟩
  | rejected hb | keyset hb | cipher hb | perm hb => exact .inr ⟨hb, rfl⟩

/-- A controller step leaves DOUT alone, or is the last step of a block command and finishes it. -/
theorem controllerStep_dout {cfg : Config} {e e' : Engine} (h : controllerStep cfg e = some e') :
    e'.dout0 = e.dout0 ∧ e'.dout1 = e.dout1 ∨
    (e.phase = .final ∧ e.op ∈ [opEncrypt, opDecrypt] ∨ e.phase = .perm ∧ e.op ∈ [opPermIp, opPermFp]) ∧
      ∃ f, e' = finishCommand f := by
  obtain ⟨-, rfl⟩ | ⟨-, -, rfl⟩ | ⟨-, -, rfl⟩ | ⟨-, -, _, -, rfl⟩ | ⟨-, _, -, _, -, rfl⟩ | ⟨-, -, rfl⟩ |
    ⟨hp, ⟨dir, ho⟩, rfl⟩ | ⟨hp, ho, rfl⟩ | ⟨hp, ho, rfl⟩ := controllerStep_cases h
  iterate 6 exact .inl ⟨rfl, rfl⟩
  · exact .inr ⟨.inl ⟨hp, mem_of_opcode ho⟩, _, rfl⟩
  · exact .inr ⟨.inr ⟨hp, by simp [ho]⟩, _, rfl⟩
  · exact .inr ⟨.inr ⟨hp, by simp [ho]⟩, _, rfl⟩

/-! ### The layout of STATUS -/

/-- STATUS as a number (10_state.md R34). -/
theorem Status.word_toNat (st : Status) :
    st.word.toNat = st.err.toNat * 16 + st.overrun.toNat * 8 + st.keyValid.toNat * 4 + st.done.toNat * 2 +
      st.busy.toNat := by
  simp only [Status.word, toNat_append_add, BitVec.toNat_ofBool, BitVec.toNat_ofNat]
  omega

/-- A bit of a word that is 0 or 1 as the number says. -/
theorem getLsbD_eq_of_toNat {n i : Nat} {x : BitVec n} {b : Bool} (h : x.toNat / 2 ^ i % 2 = b.toNat) :
    x.getLsbD i = b := by
  rw [BitVec.getLsbD, Nat.testBit_eq_decide_div_mod_eq, h]
  cases b <;> rfl

/-- The bits of STATUS by its fields (10_state.md R34). -/
theorem Status.word_fields (st : Status) :
    st.word.getLsbD 0 = st.busy ∧ st.word.getLsbD 1 = st.done ∧ st.word.getLsbD 2 = st.keyValid ∧
      st.word.getLsbD 3 = st.overrun ∧ st.word.extractLsb' 4 4 = st.err ∧ st.word.extractLsb' 8 24 = 0#24 := by
  have hnum := st.word_toNat
  have herr := st.err.isLt
  have hover := st.overrun.toNat_lt
  have hkv := st.keyValid.toNat_lt
  have hdone := st.done.toNat_lt
  have hbusy := st.busy.toNat_lt
  refine ⟨getLsbD_eq_of_toNat ?_, getLsbD_eq_of_toNat ?_, getLsbD_eq_of_toNat ?_, getLsbD_eq_of_toNat ?_,
    BitVec.eq_of_toNat_eq ?_, BitVec.eq_of_toNat_eq ?_⟩
  iterate 4 omega
  · rw [toNat_field]
    omega
  · rw [toNat_field, BitVec.toNat_ofNat]
    omega

end Sys2Proof.Machine
end

section
/-! SUPPORT. The statements on the state (10_state.md), settled. -/

open Sys2Proof Sys2Proof.Machine

/-- Settles O48: the clauses of R51 are the invariant's first part, and reset, register writes, CMD writes and
controller steps each keep it. -/
theorem everyStepKeepsTheInvariant : Obligations.EveryStepKeepsTheInvariant :=
  ⟨fun _ ⟨hclauses, _⟩ => hclauses, fun _ _ hi h => step_inv h hi⟩

/-- Settles O49: KEYSET's ROUND steps extend its partial schedule, which is complete when FINAL sets KEY_VALID. -/
theorem everyStepKeepsKeyValidTruthful : Obligations.EveryStepKeepsKeyValidTruthful :=
  fun _ _ hi hk h => step_keysAgree h hi hk

/-- Settles O52: of the effects of a step only reset and a block command's last step touch DOUT. -/
theorem outputWrittenByFinalStepsAndResetAlone : Obligations.OutputWrittenByFinalStepsAndResetAlone := by
  intro s t h hchanged
  obtain ⟨rest, hev, -⟩ | ⟨v, rest, hev, he⟩ | ⟨hturn, hc⟩ | ⟨r, v, he⟩ := step_effect h
  · exact .inl ⟨rest, hev⟩
  · obtain ⟨h0, h1⟩ := (commandEngine_outcome Config.fce v s.engine).dout
    simp [he, h0, h1] at hchanged
  · obtain ⟨h0, h1⟩ | ⟨hrow, f, he⟩ := controllerStep_dout hc
    · simp [h0, h1] at hchanged
    · exact .inr ⟨hturn, hrow, by simp [he]⟩
  · obtain ⟨h0, h1, -⟩ := writeReg_frame r v s.engine
    simp [he, h0, h1] at hchanged

/-- Settles O53: of the effects of a step only reset and an accepted CMD write touch CMD and ERR. -/
theorem cmdAndErrWrittenAtAcceptanceAlone : Obligations.CmdAndErrWrittenAtAcceptanceAlone := by
  intro s t h hchanged
  obtain ⟨rest, hev, -⟩ | ⟨v, rest, hev, he⟩ | ⟨-, hc⟩ | ⟨r, v, he⟩ := step_effect h
  · exact .inl ⟨rest, hev⟩
  · obtain ⟨hcmd, herr⟩ | ⟨hb, hcmd⟩ := (commandEngine_outcome Config.fce v s.engine).cmd_err
    · simp [he, hcmd, herr] at hchanged
    · exact .inr ⟨v, rest, hev, hb, he ▸ hcmd⟩
  · obtain ⟨hcmd, herr⟩ := controllerStep_cmd_err hc
    simp [hcmd, herr] at hchanged
  · obtain ⟨-, -, hcmd, hst⟩ := writeReg_frame r v s.engine
    simp [he, hcmd, hst] at hchanged

/-- Settles O1: the reset state is a closed term. -/
theorem resetValues : Obligations.ResetValues := by
  unfold Obligations.ResetValues
  decide

/-- Settles O47: the engine of reset is in IDLE, with its hidden registers clear and no key loaded. -/
theorem invariantHoldsAtReset : Obligations.InvariantHoldsAtReset := ⟨reset_inv, reset_keysAgree _⟩

/-- Settles O4: the layout is `Status.word_fields`, and the access at offset 0x04 is a read or an ignored write. -/
theorem statusRegister : Obligations.StatusRegister := by
  refine ⟨Status.word_fields, fun s rest h => ?_, fun s v rest h => ?_, rfl⟩ <;> rw [step_of_cons h] <;> rfl

end

section
/-! SUPPORT. One access of the register window (20_memory.md R62, R64, R69), the addresses of the window (R60), and the
conversions between bytes and words (R66): LE by the lanes of two registers, BE as LE with the bytes reversed. -/

namespace Sys2Proof.Machine

open Sys2Proof

/-! ### The register window -/

/-- A read at a register's offset returns the register and touches nothing (20_memory.md R69). -/
theorem hostRead_offset (r : Reg) (s : State) :
    hostRead r.offset s = .next { s with reply := .data (readReg r s.engine) } := by
  simp [hostRead]

/-- A write at the offset of CMD is a command issue (20_memory.md R69). -/
theorem hostWrite_cmd (v : Word) (s : State) :
    hostWrite 0x00 v s = commandWrite v { s with reply := .written } := rfl

/-- A write at the offset of any other register is that register's write (20_memory.md R69). -/
theorem hostWrite_offset {r : Reg} (h : r ≠ .cmd) (v : Word) (s : State) :
    hostWrite r.offset v s = .next { s with engine := writeReg r v s.engine, reply := .written } := by
  cases r with
  | cmd => exact absurd rfl h
  | status | din0 | din1 | key0 | key1 | dout0 | dout1 => rfl

/-- A read at an offset that is no multiple of 4 is a bus error (20_memory.md R64). -/
theorem hostRead_unaligned {off : Fin 32} (h : off.val % 4 ≠ 0) (s : State) : hostRead off s = busError s := by
  simp [hostRead, (Reg.ofOffset_eq_none off).mpr h]

/-- A write at an offset that is no multiple of 4 is a bus error (20_memory.md R64). -/
theorem hostWrite_unaligned {off : Fin 32} (h : off.val % 4 ≠ 0) (v : Word) (s : State) :
    hostWrite off v s = busError s := by
  simp [hostWrite, (Reg.ofOffset_eq_none off).mpr h]

/-- An address inside the window has its distance from BASE as offset (20_memory.md R60). -/
theorem windowOffset_base_add (cfg : Config) (off : Fin 32) : windowOffset cfg (cfg.base + off.val) = some off := by
  simp [windowOffset]

/-- The engine decodes no address outside the window (20_memory.md R60). -/
theorem windowOffset_outside {cfg : Config} {addr : Nat} (h : addr < cfg.base ∨ cfg.base + 32 ≤ addr) :
    windowOffset cfg addr = none :=
  dif_neg (by omega)

/-! ### The bytes of two registers -/

/-- The four bytes of a word made of four bytes. -/
theorem bytes_of_append (b3 b2 b1 b0 : Byte) :
    (b3 ++ b2 ++ b1 ++ b0 : Word).extractLsb' 0 8 = b0 ∧ (b3 ++ b2 ++ b1 ++ b0 : Word).extractLsb' 8 8 = b1 ∧
      (b3 ++ b2 ++ b1 ++ b0 : Word).extractLsb' 16 8 = b2 ∧ (b3 ++ b2 ++ b1 ++ b0 : Word).extractLsb' 24 8 = b3 := by
  have := b3.isLt
  have := b2.isLt
  have := b1.isLt
  have := b0.isLt
  refine ⟨?_, ?_, ?_, ?_⟩ <;> apply BitVec.eq_of_toNat_eq <;> simp only [toNat_field, toNat_append_add] <;> omega

/-- A buffer is the lanes of its two registers (20_memory.md R65). -/
theorem lanes_lowLanes_highLanes (b : Vector Byte 8) : lanes (lowLanes b) (highLanes b) = b := by
  obtain ⟨h0, h1, h2, h3⟩ := bytes_of_append b[3] b[2] b[1] b[0]
  obtain ⟨h4, h5, h6, h7⟩ := bytes_of_append b[7] b[6] b[5] b[4]
  simp only [lanes, lowLanes, highLanes, h0, h1, h2, h3, h4, h5, h6, h7]
  apply Vector.ext
  intro i hi
  interval_cases i <;> rfl

/-- Reversing a buffer makes its second register, with its bytes reversed, the first. -/
theorem lowLanes_reverse (b : Vector Byte 8) : lowLanes b.reverse = bswap32 (highLanes b) := by
  obtain ⟨h4, h5, h6, h7⟩ := bytes_of_append b[7] b[6] b[5] b[4]
  simp [lowLanes, highLanes, bswap32, h4, h5, h6, h7]

/-- Reversing a buffer makes its first register, with its bytes reversed, the second. -/
theorem highLanes_reverse (b : Vector Byte 8) : highLanes b.reverse = bswap32 (lowLanes b) := by
  obtain ⟨h0, h1, h2, h3⟩ := bytes_of_append b[3] b[2] b[1] b[0]
  simp [lowLanes, highLanes, bswap32, h0, h1, h2, h3]

/-! ### LE: the word is the two registers side by side -/

/-- The LE word of a buffer is its second register before its first (20_memory.md R66). -/
theorem load64_le (b : Vector Byte 8) : load64 .le b = highLanes b ++ lowLanes b := by
  apply BitVec.eq_of_toNat_eq
  simp only [load64, highLanes, lowLanes, toNat_append_add]
  omega

/-- A field of a field is the field of the word that begins where both starts add up to. -/
theorem extractLsb'_of_extractLsb' {n start len k m : Nat} (x : BitVec n) (h : k + m ≤ len) :
    (x.extractLsb' start len).extractLsb' k m = x.extractLsb' (start + k) m := by
  apply BitVec.eq_of_getLsbD_eq
  intro i hi
  have hk : k + i < len := by omega
  simp [hi, hk, Nat.add_assoc]

/-- The LE bytes of a word are the lanes of its two halves (20_memory.md R66). -/
theorem store64_le (w : Block) : store64 .le w = lanes (w.extractLsb' 0 32) (w.extractLsb' 32 32) := by
  simp [store64, lanes, extractLsb'_of_extractLsb']

/-! ### BE: LE with the bytes reversed -/

/-- The BE word of a buffer is the LE word of its bytes in reverse (20_memory.md R66). -/
theorem load64_be (b : Vector Byte 8) : load64 .be b = load64 .le b.reverse := by
  simp [load64]

/-- The BE bytes of a word are its LE bytes in reverse (20_memory.md R66). -/
theorem store64_be (w : Block) : store64 .be w = (store64 .le w).reverse := by
  simp [store64]

/-! ### Both byte orders -/

/-- The word of the bytes of a word is the word (20_memory.md R66). -/
theorem load64_store64 (order : ByteOrder) (w : Block) : load64 order (store64 order w) = w := by
  have hle : load64 .le (store64 .le w) = w := by
    rw [load64_le, store64_le, highLanes_lanes, lowLanes_lanes]
    exact (BitVec.extractLsb'_append_extractLsb'_eq_extractLsb' rfl).trans BitVec.extractLsb'_eq_self
  cases order with
  | le => exact hle
  | be => rw [load64_be, store64_be, Vector.reverse_reverse, hle]

/-- The bytes of the word of eight bytes are the bytes (20_memory.md R66). -/
theorem store64_load64 (order : ByteOrder) (b : Vector Byte 8) : store64 order (load64 order b) = b := by
  have hle (b : Vector Byte 8) : store64 .le (load64 .le b) = b := by
    rw [store64_le, load64_le, BitVec.extractLsb'_append_eq_right, BitVec.extractLsb'_append_eq_left,
      lanes_lowLanes_highLanes]
  cases order with
  | le => exact hle b
  | be => rw [store64_be, load64_be, hle, Vector.reverse_reverse]

/-- Byte j of a word in each byte order, as R66 of 20_memory.md lists them. -/
theorem store64_byte (w : Block) (j : Fin 8) :
    (store64 .le w)[j] = w.extractLsb' (8 * j.val) 8 ∧ (store64 .be w)[j] = w.extractLsb' (56 - 8 * j.val) 8 := by
  fin_cases j <;> exact ⟨rfl, rfl⟩

/-- `bswap32` puts each byte at the mirrored place (20_memory.md R66). -/
theorem bswap32_byte (v : Word) (j : Fin 4) :
    (bswap32 v).extractLsb' (8 * j.val) 8 = v.extractLsb' (24 - 8 * j.val) 8 := by
  obtain ⟨h0, h1, h2, h3⟩ :=
    bytes_of_append (v.extractLsb' 0 8) (v.extractLsb' 8 8) (v.extractLsb' 16 8) (v.extractLsb' 24 8)
  fin_cases j
  · exact h0
  · exact h1
  · exact h2
  · exact h3

/-- Byte j of each register of a buffer is its lane (20_memory.md R65). -/
theorem lanes_byte (lo hi : Word) (j : Fin 4) :
    (lanes lo hi)[j.val] = lo.extractLsb' (8 * j.val) 8 ∧
      (lanes lo hi)[4 + j.val] = hi.extractLsb' (8 * j.val) 8 := by
  fin_cases j <;> exact ⟨rfl, rfl⟩

/-- The word of two registers in each byte order, as R66 of 20_memory.md derives them. -/
theorem load64_lanes (lo hi : Word) :
    load64 .le (lanes lo hi) = hi ++ lo ∧ load64 .be (lanes lo hi) = bswap32 lo ++ bswap32 hi := by
  simp [load64_be, load64_le, lowLanes_reverse, highLanes_reverse]

/-- The two registers of a stored word in each byte order, as R66 of 20_memory.md derives them. -/
theorem lanes_store64 (w : Block) :
    lowLanes (store64 .le w) = w.extractLsb' 0 32 ∧ highLanes (store64 .le w) = w.extractLsb' 32 32 ∧
      lowLanes (store64 .be w) = bswap32 (w.extractLsb' 32 32) ∧
      highLanes (store64 .be w) = bswap32 (w.extractLsb' 0 32) := by
  simp [store64_be, store64_le, lowLanes_reverse, highLanes_reverse]

end Sys2Proof.Machine
end

section
/-! SUPPORT. The statements on the register window and its byte order (20_memory.md), settled. -/

open Sys2Proof Sys2Proof.Machine

/-- Settles O5: the rows of R69's table are the registers in the order of the map, each at its offset. -/
theorem hostAccessEffects : Obligations.HostAccessEffects := by
  intro s rest off v
  refine ⟨fun hev w hw => ?_, fun hev => ⟨fun hoff => ?_, fun e he => ?_⟩⟩
  · change (off, w) ∈ Reg.all.map fun r => (r.offset, readReg r s.engine) at hw
    obtain ⟨r, -, hr⟩ := List.mem_map.mp hw
    cases hr
    rw [step_of_cons hev]
    exact hostRead_offset r _
  · subst hoff
    rw [step_of_cons hev]
    exact hostWrite_cmd v _
  · change (off, e) ∈ Reg.all.tail.map fun r => (r.offset, writeReg r v s.engine) at he
    obtain ⟨r, hmem, hr⟩ := List.mem_map.mp he
    have hcmd : r ≠ .cmd := by
      rintro rfl
      exact absurd hmem (by decide)
    cases hr
    rw [step_of_cons hev]
    exact hostWrite_offset hcmd v _

/-- Settles O6: another width never reaches a register, and an unaligned offset is no register's. -/
theorem busErrorChangesNoEngineState : Obligations.BusErrorChangesNoEngineState := by
  intro s rest a hev ha
  rw [step_of_cons hev]
  obtain ⟨dir, w, off, rfl⟩ | ⟨off, hoff, rfl | ⟨v, rfl⟩⟩ := ha
  · rfl
  · exact hostRead_unaligned hoff _
  · exact hostWrite_unaligned hoff v _

/-- Settles O7: the offset of an address is its distance from BASE, which is 32 times a number. -/
theorem windowDecodesItsOwnAddressesOnly : Obligations.WindowDecodesItsOwnAddressesOnly := by
  refine fun addr make s => ⟨fun off hin => ?_, fun hout => ?_, Nat.mul_mod_right 32 _⟩
  · rw [busRequest, hin, windowOffset_base_add]
  · rw [busRequest, windowOffset_outside hout]

/-- Settles O38: LE by the lanes of the two halves, BE as LE reversed. -/
theorem byteAndWordConversions : Obligations.ByteAndWordConversions :=
  ⟨lanes_byte, store64_byte, load64_store64, store64_load64, bswap32_byte, load64_lanes, lanes_store64⟩

end

section
/-! SUPPORT. The decoder and the encoder as inverses of each other, and the words and register
values of the pseudo-instructions (30_encoding.md R90 to R97). -/

namespace Sys2Proof.Machine

open Sys2Proof

/-! ### Decoding and encoding -/

/-- The opcode of a command selects it (30_encoding.md R92). -/
theorem decodeOpcode_opcode (i : Instr) : decodeOpcode i.opcode i.inLen i.outLen = some i := by cases i <;> rfl

/-- A command is decoded from its own word (30_encoding.md R94). -/
@[simp] theorem decode_encode (i : Instr) : decode (encode i) = some i := by
  obtain ⟨hop, hrsvd, hin, hout⟩ := Laws.EncodedWord.commandWord_fields i.opcode i.inLen i.outLen
  rw [decode, encode, if_pos hrsvd, hop, hin, hout, decodeOpcode_opcode]

/-- A word decodes to a command exactly when it is that command's word. -/
theorem decode_eq_some_iff {v : Word} {i : Instr} : decode v = some i ↔ encode i = v :=
  ⟨encode_of_decode_eq_some, fun h => h ▸ decode_encode i⟩

/-- The word of a command as a number (30_encoding.md R90). -/
theorem encode_toNat (i : Instr) :
    (encode i).toNat = i.outLen.toNat * 16777216 + i.inLen.toNat * 65536 + i.opcode.toNat := by
  simp only [encode, commandWord, toNat_append_add, BitVec.toNat_ofNat]
  omega

/-- Every command's opcode is one of the five of 30_encoding.md R92. -/
theorem instr_opcode_mem (i : Instr) : i.opcode ∈ [0x01#8, 0x02#8, 0x03#8, 0x04#8, 0x05#8] := by
  cases i <;> simp [Instr.opcode, opKeyset, opEncrypt, opDecrypt, opPermIp, opPermFp]

/-- Each of the five opcodes of 30_encoding.md R92, with any two lengths, is a command's. -/
theorem exists_instr_of_opcode_mem {op : Byte} (h : op ∈ [0x01#8, 0x02#8, 0x03#8, 0x04#8, 0x05#8]) (n m : Byte) :
    ∃ i : Instr, i.opcode = op ∧ i.inLen = n ∧ i.outLen = m := by
  simp only [List.mem_cons, List.not_mem_nil, or_false] at h
  obtain rfl | rfl | rfl | rfl | rfl := h
  · exact ⟨.keyset n m, rfl, rfl, rfl⟩
  · exact ⟨.encrypt n m, rfl, rfl, rfl⟩
  · exact ⟨.decrypt n m, rfl, rfl, rfl⟩
  · exact ⟨.permIp n m, rfl, rfl, rfl⟩
  · exact ⟨.permFp n m, rfl, rfl, rfl⟩

/-- The opcodes of 30_encoding.md R92, and no others, select a command, of that opcode. -/
theorem decodeOpcode_map_opcode (op n m : Byte) :
    (decodeOpcode op n m).map Instr.opcode =
      if op ∈ [0x01#8, 0x02#8, 0x03#8, 0x04#8, 0x05#8] then some op else none := by
  split
  · rename_i hmem
    obtain ⟨i, rfl, rfl, rfl⟩ := exists_instr_of_opcode_mem hmem n m
    rw [decodeOpcode_opcode, Option.map_some]
  · rename_i hmem
    rw [Option.map_eq_none_iff, Option.eq_none_iff_forall_ne_some]
    intro i hd
    obtain ⟨rfl, -, -⟩ := fields_of_decodeOpcode hd
    exact hmem (instr_opcode_mem i)

/-- The opcode of the command a word selects (30_encoding.md R94). -/
theorem decode_map_opcode (v : Word) :
    (decode v).map Instr.opcode =
      if rsvdField v = 0x00#8 ∧ opcodeField v ∈ [0x01#8, 0x02#8, 0x03#8, 0x04#8, 0x05#8] then some (opcodeField v)
      else none := by
  unfold decode
  split
  · rename_i hr
    simp only [decodeOpcode_map_opcode, hr, true_and]
  · rename_i hr
    simp only [hr, false_and, if_false, Option.map_none]

/-- `v[15:0]` holds RSVD and OPCODE (30_encoding.md R91). -/
theorem rsvd_opcode_of_low_half (v : Word) :
    rsvdField v = (v.extractLsb' 0 16).extractLsb' 8 8 ∧ opcodeField v = (v.extractLsb' 0 16).extractLsb' 0 8 := by
  constructor <;> rw [extractLsb'_of_extractLsb' v (by decide)] <;> rfl

/-! ### Pseudo-instructions -/

/-- `(o << 24) | (i << 16) | opcode` is the command word of its fields (30_encoding.md R90, R97). -/
theorem shiftLeft_or_eq_commandWord (op i o : Byte) :
    o.zeroExtend 32 <<< 24 ||| i.zeroExtend 32 <<< 16 ||| op.zeroExtend 32 = commandWord op i o := by
  apply BitVec.eq_of_getLsbD_eq
  intro j hj
  simp only [commandWord, BitVec.truncate_eq_setWidth, BitVec.getLsbD_or, BitVec.getLsbD_shiftLeft,
    BitVec.getLsbD_setWidth, BitVec.getLsbD_append]
  -- bit j lies in one of the four bytes, and only the operand of that byte has a bit there
  grind

/-- The length form of an instruction is its encoding (30_encoding.md R97). -/
theorem shiftLeft_or_eq_encode (i : Instr) :
    i.outLen.zeroExtend 32 <<< 24 ||| i.inLen.zeroExtend 32 <<< 16 ||| i.opcode.zeroExtend 32 = encode i :=
  shiftLeft_or_eq_commandWord i.opcode i.inLen i.outLen

/-- The length form of KEYSET, which leaves OUT_LEN 0 (30_encoding.md R97). -/
theorem shiftLeft_or_eq_encode_keyset (n : Byte) : n.zeroExtend 32 <<< 16 ||| 0x01#32 = encode (.keyset n 0#8) := by
  have hform := shiftLeft_or_eq_encode (.keyset n 0#8)
  simpa [Instr.outLen, Instr.inLen, Instr.opcode, opKeyset] using hform

/-- The register values a word is written with leave that word to be loaded (30_encoding.md R97, R98). -/
theorem load64_lanes_store64 (order : ByteOrder) (w : Block) :
    load64 order (lanes (lowLanes (store64 order w)) (highLanes (store64 order w))) = w := by
  rw [lanes_lowLanes_highLanes, load64_store64]

/-- With LE the register values of a word are its low and its high half (30_encoding.md R97). -/
theorem lanes_store64_of_le {order : ByteOrder} (h : order = .le) (w : Block) :
    lowLanes (store64 order w) = w.extractLsb' 0 32 ∧ highLanes (store64 order w) = w.extractLsb' 32 32 := by
  subst h
  obtain ⟨hlow, hhigh, -⟩ := lanes_store64 w
  exact ⟨hlow, hhigh⟩

end Sys2Proof.Machine
end

section
/-! SUPPORT. The controller steps that are left of a command (44_block_transform.md R221), and the end of `wait`
(30_encoding.md R97). -/

namespace Sys2Proof.Machine

open Sys2Proof

/-! ### The steps left of a command -/

/-- The controller steps from e to the end of its command (44_block_transform.md R221). -/
def stepsLeft (e : Engine) : Nat :=
  match e.phase with
  | .idle => 0
  | .init => 18
  | .round => 17 - e.rnd.toNat
  | .final => 1
  | .perm => 1

/-! `stepsLeft` in each PHASE. -/

theorem stepsLeft_idle {e : Engine} (h : e.phase = .idle) : stepsLeft e = 0 := by simp [stepsLeft, h]
theorem stepsLeft_init {e : Engine} (h : e.phase = .init) : stepsLeft e = 18 := by simp [stepsLeft, h]
theorem stepsLeft_round {e : Engine} (h : e.phase = .round) : stepsLeft e = 17 - e.rnd.toNat := by
  simp [stepsLeft, h]
theorem stepsLeft_final {e : Engine} (h : e.phase = .final) : stepsLeft e = 1 := by simp [stepsLeft, h]
theorem stepsLeft_perm {e : Engine} (h : e.phase = .perm) : stepsLeft e = 1 := by simp [stepsLeft, h]

/-- No command is longer than the 18 steps of KEYSET, ENCRYPT and DECRYPT. -/
theorem stepsLeft_le (e : Engine) : stepsLeft e ≤ 18 := by
  unfold stepsLeft
  split <;> omega

/-- While BUSY the command has a step left (10_state.md R51). -/
theorem stepsLeft_pos {e : Engine} (hi : e.Inv) (hb : e.status.busy = true) : 0 < stepsLeft e := by
  cases hp : e.phase with
  | idle =>
    obtain ⟨hidle, -⟩ := (inv_idle_iff hp).mp hi
    simp [hb] at hidle
  | init => simp [stepsLeft_init hp]
  | round =>
    obtain ⟨-, -, -, -, hround, -⟩ := (inv_iterating_iff (.inl hp)).mp hi
    have hrnd := hround hp
    rw [stepsLeft_round hp]
    omega
  | final => simp [stepsLeft_final hp]
  | perm => simp [stepsLeft_perm hp]

/-- Counting round r leaves 16 - r steps. -/
theorem stepsLeft_advanceRound (r : Fin 16) (e : Engine) : stepsLeft (advanceRound r e) = 16 - r.val := by
  obtain ⟨hp, hr⟩ | ⟨hp, hr⟩ := advanceRound_phase_cases r e
  · rw [stepsLeft_final hp, hr]
  · rw [stepsLeft_round hp, advanceRound_rnd_toNat]
    omega

/-- A step that finishes its command is the last one left. -/
theorem stepsLeft_finishCommand {e : Engine} (h : stepsLeft e = 1) (f : Engine) :
    stepsLeft (finishCommand f) = stepsLeft e - 1 := by
  rw [h]
  rfl

/-- A controller step is one of the steps left; in IDLE there is none. -/
theorem stepsLeft_controllerStep {cfg : Config} {e e' : Engine} (h : controllerStep cfg e = some e') (hi : e.Inv) :
    stepsLeft e' = stepsLeft e - 1 := by
  obtain ⟨hp, rfl⟩ | ⟨hp, -, rfl⟩ | ⟨hp, -, rfl⟩ | ⟨hp, -, r, hr, rfl⟩ | ⟨hp, dir, -, r, hr, rfl⟩ |
    ⟨hp, -, rfl⟩ | ⟨hp, -, rfl⟩ | ⟨hp, -, rfl⟩ | ⟨hp, -, rfl⟩ := controllerStep_cases h
  · -- IDLE
    rw [stepsLeft_idle hp]
  · -- KEYSET, INIT
    obtain ⟨-, -, -, hrnd, -⟩ := (inv_init_iff hp).mp hi
    rw [stepsLeft_init hp, stepsLeft_round rfl]
    simp [keysetInit, hrnd]
  · -- ENCRYPT and DECRYPT, INIT
    obtain ⟨-, -, -, hrnd, -⟩ := (inv_init_iff hp).mp hi
    rw [stepsLeft_init hp, stepsLeft_round rfl]
    simp [cipherInit, hrnd]
  · -- KEYSET, ROUND
    rw [keysetRound_eq, stepsLeft_advanceRound, stepsLeft_round hp, hr]
    omega
  · -- ENCRYPT and DECRYPT, ROUND
    rw [cipherRound_eq, stepsLeft_advanceRound, stepsLeft_round hp, hr]
    omega
  · -- KEYSET, FINAL
    exact stepsLeft_finishCommand (stepsLeft_final hp) _
  · -- ENCRYPT and DECRYPT, FINAL
    exact stepsLeft_finishCommand (stepsLeft_final hp) _
  · -- PERM_IP
    exact stepsLeft_finishCommand (stepsLeft_perm hp) _
  · -- PERM_FP
    exact stepsLeft_finishCommand (stepsLeft_perm hp) _

/-- An opcode of KEYSET, ENCRYPT or DECRYPT is KEYSET's or selects a key order. -/
theorem opKeyset_or_opcode {op : Byte} (h : op ∈ [opKeyset, opEncrypt, opDecrypt]) :
    op = opKeyset ∨ ∃ dir : KeyOrder, op = dir.opcode := by
  simp only [List.mem_cons, List.not_mem_nil, or_false] at h
  obtain h | h | h := h
  · exact .inl h
  · exact .inr ⟨.enc, h⟩
  · exact .inr ⟨.dec, h⟩

/-- Under the invariant the controller is in a row of 44_block_transform.md R211, so it has a step. -/
theorem exists_controllerStep {e : Engine} (hi : e.Inv) (cfg : Config) : ∃ e', controllerStep cfg e = some e' := by
  cases hp : e.phase with
  | idle => exact ⟨_, controllerStep_idle hp⟩
  | init =>
    obtain ⟨-, -, hop, -⟩ := (inv_init_iff hp).mp hi
    obtain ho | ⟨dir, ho⟩ := opKeyset_or_opcode hop
    · exact ⟨_, controllerStep_init_keyset hp ho⟩
    · exact ⟨_, controllerStep_init_cipher hp ho⟩
  | round =>
    obtain ⟨-, -, hop, -, hround, -⟩ := (inv_iterating_iff (.inl hp)).mp hi
    have hrnd : e.rnd.toNat < 16 := Nat.lt_succ_of_le (hround hp)
    obtain ho | ⟨dir, ho⟩ := opKeyset_or_opcode hop
    · exact ⟨_, controllerStep_round_keyset hp ho ⟨_, hrnd⟩ rfl⟩
    · exact ⟨_, controllerStep_round_cipher hp ho ⟨_, hrnd⟩ rfl⟩
  | final =>
    obtain ⟨-, -, hop, -⟩ := (inv_iterating_iff (.inr hp)).mp hi
    obtain ho | ⟨dir, ho⟩ := opKeyset_or_opcode hop
    · exact ⟨_, controllerStep_final_keyset hp ho⟩
    · exact ⟨_, controllerStep_final_cipher hp ho⟩
  | perm =>
    obtain ⟨-, hop, -⟩ := (inv_perm_iff hp).mp hi
    simp only [List.mem_cons, List.not_mem_nil, or_false] at hop
    obtain ho | ho := hop
    · exact ⟨_, controllerStep_permIp hp ho⟩
    · exact ⟨_, controllerStep_permFp hp ho⟩

/-! ### Runs -/

/-- A run of m steps that answers b goes on from b. -/
theorem run_add (M : Host.Core) {a b : M.State} {m : Nat} (h : M.run m a = .next b) (n : Nat) :
    M.run (m + n) a = M.run n b := by
  induction m generalizing a with
  | zero =>
    cases h
    rw [Nat.zero_add]
  | succ m ih =>
    rw [Host.Core.run] at h
    rw [Nat.add_right_comm, Host.Core.run]
    cases hstep : M.step a with
    | next c =>
      rw [hstep] at h
      exact ih h
    | fault r => simp [hstep] at h
    | refused r => simp [hstep] at h

/-- Under the invariant g pending turns of the controller happen, and each is one of the steps left. -/
theorem run_controllerTurns (g : Nat) {s : State} {evs : List Event} (hi : s.Inv)
    (hev : s.events = List.replicate g .controller ++ evs) :
    ∃ t, Host.Core.run Sys2Proof.core g s = .next t ∧ t.events = evs ∧ t.Inv ∧
      stepsLeft t.engine = stepsLeft s.engine - g := by
  induction g generalizing s with
  | zero => exact ⟨s, run_zero s, hev, hi, rfl⟩
  | succ g ih =>
    obtain ⟨e, hc⟩ := exists_controllerStep hi Config.fce
    have hstep : step s = .next { s with engine := e, events := List.replicate g .controller ++ evs } := by
      rw [step_of_cons hev]
      exact controllerTurn_eq_next.mpr ⟨e, hc, rfl⟩
    obtain ⟨t, hrun, htev, hti, hleft⟩ := ih (step_inv hstep hi) rfl
    refine ⟨t, by rw [run_succ hstep, hrun], htev, hti, ?_⟩
    have he : stepsLeft e = stepsLeft s.engine - 1 := stepsLeft_controllerStep hc hi
    rw [hleft, he]
    omega

/-! ### `wait` -/

/-- A read of `wait` that finds BUSY clear ends it (30_encoding.md R97). -/
theorem step_wait_idle {s : State} {gaps : List Nat} {rest : List Event} (hev : s.events = .wait gaps :: rest)
    (hb : s.engine.status.busy = false) :
    step s = .next { s with events := rest, reply := .data s.engine.status.word } := by
  simp [step_of_cons hev, handleEvent, waitPoll, hb, readReg]

/-- A read of `wait` that finds BUSY set comes again, after the turns of its gap (30_encoding.md R97; log 7). -/
theorem step_wait_busy {s : State} {gaps : List Nat} {rest : List Event} (hev : s.events = .wait gaps :: rest)
    (hb : s.engine.status.busy = true) :
    step s = .next { s with
      events := List.replicate (waitGap gaps).1 .controller ++ .wait (waitGap gaps).2 :: rest
      reply := .data s.engine.status.word } := by
  simp [step_of_cons hev, handleEvent, waitPoll, hb, readReg]

/-- A read of `wait` that finds BUSY set, and the turns of its gap. -/
theorem run_wait_busy {s : State} {gaps : List Nat} {rest : List Event} (hi : s.Inv)
    (hev : s.events = .wait gaps :: rest) (hb : s.engine.status.busy = true) :
    ∃ t, Host.Core.run Sys2Proof.core ((waitGap gaps).1 + 1) s = .next t ∧
      t.events = .wait (waitGap gaps).2 :: rest ∧ t.Inv ∧ stepsLeft t.engine = stepsLeft s.engine - (waitGap gaps).1 := by
  have hpoll := step_wait_busy hev hb
  obtain ⟨t, hrun, ht⟩ := run_controllerTurns (waitGap gaps).1 (step_inv hpoll hi) rfl
  exact ⟨t, by rw [run_succ hpoll, hrun], ht⟩

/-- How many steps a `wait` with these gaps takes at most, with so many steps left of the command: a read and a turn for
each of them, the reads and turns of the gaps, and the read that finds BUSY clear. -/
def waitBound (gaps : List Nat) (left : Nat) : Nat := gaps.length + gaps.sum + 2 * left + 1

/-- A read that finds BUSY set and the turns of its gap leave a smaller bound. -/
theorem waitBound_waitGap (gaps : List Nat) {left : Nat} (h : 0 < left) :
    (waitGap gaps).1 + 1 + waitBound (waitGap gaps).2 (left - (waitGap gaps).1) ≤ waitBound gaps left := by
  cases gaps with
  | nil =>
    simp only [waitGap, waitBound]
    omega
  | cons g gaps =>
    simp only [waitGap, waitBound, List.length_cons, List.sum_cons]
    omega

/-- Under the invariant `wait` ends within its bound, by a read that finds BUSY clear. -/
theorem wait_ends {s : State} {gaps : List Nat} {rest : List Event} (hi : s.Inv)
    (hev : s.events = .wait gaps :: rest) :
    ∃ (n : Nat) (t : State), n ≤ waitBound gaps (stepsLeft s.engine) ∧ Host.Core.run Sys2Proof.core n s = .next t ∧
      t.events = rest ∧ t.engine.status.busy = false ∧ t.reply = .data t.engine.status.word := by
  induction hk : waitBound gaps (stepsLeft s.engine) using Nat.strong_induction_on generalizing s gaps with
  | _ k ih =>
    cases hb : s.engine.status.busy with
    | false =>
      have hpoll := step_wait_idle hev hb
      have hbound : 1 ≤ k := by
        rw [← hk]
        exact Nat.succ_pos _
      exact ⟨1, _, hbound, run_succ hpoll 0, rfl, hb, rfl⟩
    | true =>
      obtain ⟨u, hrun, huev, hui, hleft⟩ := run_wait_busy hi hev hb
      have hbound := waitBound_waitGap gaps (stepsLeft_pos hi hb)
      rw [← hleft, hk] at hbound
      obtain ⟨n, t, hn, hrest, ht⟩ := ih _ (by omega) hui huev rfl
      exact ⟨(waitGap gaps).1 + 1 + n, t, by omega, (run_add Sys2Proof.core hrun n).trans hrest, ht⟩

end Sys2Proof.Machine
end

section
/-! SUPPORT. The statements on the command word and on host programs (30_encoding.md), settled. -/

open Sys2Proof Sys2Proof.Machine

/-- Settles O10: the fields of a command's word are the command's, and its opcode selects it. -/
theorem decodeOfEncode : Obligations.DecodeOfEncode := decode_encode

/-- Settles O8: a decoded word is its command's word, whose fields as numbers are the command's. -/
theorem decodedFieldsAreTheWordsFields : Obligations.DecodedFieldsAreTheWordsFields := by
  intro v i h
  have hword := encode_toNat i
  rw [decode_eq_some_iff.mp h] at hword
  have hop := i.opcode.isLt
  have hin := i.inLen.isLt
  have hout := i.outLen.isLt
  omega

/-- Settles O9: RSVD 0 and one of the five opcodes, which both lie in the low half, are what the decoder asks. -/
theorem decodeDefinedExactly : Obligations.DecodeDefinedExactly := by
  refine ⟨fun v => ?_, fun v w h => ?_⟩
  · rw [← Option.isSome_map, decode_map_opcode, Option.isSome_ite]
    rfl
  · obtain ⟨hrv, hov⟩ := rsvd_opcode_of_low_half v
    obtain ⟨hrw, how⟩ := rsvd_opcode_of_low_half w
    rw [decode_map_opcode, decode_map_opcode, hrv, hov, hrw, how, h]

/-- Settles O11: a word decodes to a command exactly when it is that command's word. -/
theorem encodeOfDecode : Obligations.EncodeOfDecode := fun _ _ => decode_eq_some_iff.mp

/-- Settles O57: `wait` ends within the bound of its gaps, and a command has at most 18 steps left. -/
theorem waitTerminates : Obligations.WaitTerminates := by
  intro s gaps rest hi hev
  obtain ⟨n, t, hn, ht⟩ := wait_ends hi hev
  have hleft := stepsLeft_le s.engine
  exact ⟨n, t, by unfold waitBound at hn; omega, ht⟩

/-- Settles O58: the length forms are command words, and the registers of a word load it back. -/
theorem pseudoInstructionExpansions : Obligations.PseudoInstructionExpansions := by
  intro cfg i o k
  have hlength (instr : Instr) := congrArg (fun v => [Stmt.cmd v]) (shiftLeft_or_eq_encode instr)
  refine ⟨rfl, rfl, rfl, rfl, rfl, congrArg (fun v => [Stmt.cmd v]) (shiftLeft_or_eq_encode_keyset i),
    hlength (.encrypt i o), hlength (.decrypt i o), hlength (.permIp i o), hlength (.permFp i o),
    ⟨_, _, rfl, load64_lanes_store64 _ k, fun hle => lanes_store64_of_le hle k⟩,
    ⟨_, _, rfl, load64_lanes_store64 _ k, fun hle => lanes_store64_of_le hle k⟩, rfl, rfl,
    fun a b => ⟨rfl, fun hle => ?_⟩, fun w e => load64_lanes_store64 _ w⟩
  rw [outputWord, hle]
  exact (load64_lanes a b).left

/-- Settles O12: each word is a closed term. -/
theorem canonicalWordsDecode : Obligations.CanonicalWordsDecode := by
  unfold Obligations.CanonicalWordsDecode
  decide

end

section
/-! SUPPORT. The algebra of `permute` (41_bit_permutation.md R121): well-formed tables compose, and the relations between
IP, FP_ENGINE and FIPS 46-3's IP^-1 (R125, R126) are equations of tables. -/

namespace Sys2Proof.Machine

open Sys2Proof

/-! ### Positions -/

/-- Position p of a word is bit n - p: position 1 is the most significant bit (00_scope.md R11). -/
theorem getMsbD_position {n p : Nat} (x : BitVec n) (h : 1 ≤ p ∧ p ≤ n) : x.getMsbD (p - 1) = x.getLsbD (n - p) := by
  have hp : p - 1 < n := by omega
  have hbit : n - 1 - (p - 1) = n - p := by omega
  simp [BitVec.getMsbD_eq_getLsbD, hp, hbit]

/-! ### Well-formed tables -/

/-- What the check of a table asks (41_bit_permutation.md R122). -/
theorem tableWellFormed_iff {n m : Nat} {t : List Nat} :
    tableWellFormed n m t = true ↔ t.length = m ∧ ∀ p ∈ t, 1 ≤ p ∧ p ≤ n := by
  simp [tableWellFormed]

/-- Every output position of a well-formed table has an input position. -/
theorem getD_position_of_tableWellFormed {n m i : Nat} {t : List Nat} (ht : tableWellFormed n m t = true) (hi : i < m) :
    1 ≤ t.getD i 0 ∧ t.getD i 0 ≤ n := by
  obtain ⟨rfl, hrange⟩ := tableWellFormed_iff.mp ht
  rw [List.getD_eq_getElem _ _ hi]
  exact hrange _ (List.getElem_mem hi)

/-- The permutation of a well-formed table takes a word whose bits are all b to the word whose bits are all b. -/
theorem permute_eq_of_forall_getMsbD_eq {n m : Nat} {t : List Nat} {v : BitVec n} {w : BitVec m} (b : Bool)
    (ht : tableWellFormed n m t = true) (hv : ∀ i < n, v.getMsbD i = b) (hw : ∀ i < m, w.getMsbD i = b) :
    permute t v = w := by
  obtain ⟨hlen, -⟩ := tableWellFormed_iff.mp ht
  apply BitVec.eq_of_getMsbD_eq
  intro i hi
  obtain ⟨hpos, hle⟩ := getD_position_of_tableWellFormed ht hi
  rw [permute_getMsbD t v hlen i hi, hv _ (by omega), hw i hi]

/-- A well-formed table fixes 0 (41_bit_permutation.md R126). -/
theorem permute_zero {n m : Nat} {t : List Nat} (ht : tableWellFormed n m t = true) :
    (permute t 0#n : BitVec m) = 0#m :=
  permute_eq_of_forall_getMsbD_eq false ht (by simp) (by simp)

/-- A well-formed table fixes all ones (41_bit_permutation.md R126). -/
theorem permute_allOnes {n m : Nat} {t : List Nat} (ht : tableWellFormed n m t = true) :
    (permute t (BitVec.allOnes n) : BitVec m) = BitVec.allOnes m :=
  permute_eq_of_forall_getMsbD_eq true ht (by simp) (by simp)

/-! ### Composition -/

/-- The table of one permutation after another: t reads its positions out of u. -/
def composeTables (t u : List Nat) : List Nat := t.map fun p => u.getD (p - 1) 0

/-- A permutation after another is the permutation of the composed table. -/
theorem permute_permute {n m k : Nat} {t u : List Nat} (ht : tableWellFormed m k t = true) (hu : u.length = m)
    (v : BitVec n) : (permute t (permute u v : BitVec m) : BitVec k) = permute (composeTables t u) v := by
  obtain ⟨hlen, -⟩ := tableWellFormed_iff.mp ht
  apply BitVec.eq_of_getMsbD_eq
  intro i hi
  obtain ⟨hpos, hle⟩ := getD_position_of_tableWellFormed ht hi
  have hit : i < t.length := hlen ▸ hi
  have hentry : (composeTables t u).getD i 0 = u.getD (t.getD i 0 - 1) 0 := by
    simp [composeTables, hit]
  rw [permute_getMsbD t _ hlen i hi, permute_getMsbD u v hu _ (by omega),
    permute_getMsbD _ v (by simp [composeTables, hlen]) i hi, hentry]

/-- The table 1, 2, ..., n moves nothing. -/
theorem permute_range' {n : Nat} (v : BitVec n) : (permute (List.range' 1 n) v : BitVec n) = v := by
  apply BitVec.eq_of_getMsbD_eq
  intro i hi
  rw [permute_getMsbD _ v (by simp) i hi]
  simp [hi]

/-- The table of `swap32`: the positions of the low half, then those of the high half. -/
def swap32Table : List Nat := List.range' 33 32 ++ List.range' 1 32

/-- `swap32` is a permutation of positions (00_scope.md R12). -/
theorem permute_swap32Table (w : Block) : permute swap32Table w = swap32 w := by
  apply BitVec.eq_of_getMsbD_eq
  intro i hi
  rw [permute_getMsbD _ w (by decide) i hi]
  have hentry : ∀ i < 64, swap32Table.getD i 0 - 1 = (i + 32) % 64 := by decide
  rw [hentry i hi, BitVec.getMsbD_eq_getLsbD, BitVec.getMsbD_eq_getLsbD, swap32_getLsbD _ _ (by omega)]
  have hbit : 64 - 1 - (i + 32) % 64 = (64 - 1 - i + 32) % 64 := by omega
  simp [hi, hbit, Nat.mod_lt]

/-! ### IP, FP_ENGINE and FIPS 46-3's IP^-1 -/

theorem ipTable_wellFormed : tableWellFormed 64 64 ipTable = true := by decide
theorem fpEngineTable_wellFormed : tableWellFormed 64 64 fpEngineTable = true := by decide
theorem fipsInverseIpTable_wellFormed : tableWellFormed 64 64 fipsInverseIpTable = true := by decide

/-- IP after FP_ENGINE is `swap32` (41_bit_permutation.md R126). -/
theorem permute_ipTable_fpEngineTable (y : Block) :
    (permute ipTable (permute fpEngineTable y : Block) : Block) = swap32 y := by
  have htables : composeTables ipTable fpEngineTable = swap32Table := by decide
  rw [permute_permute ipTable_wellFormed rfl, htables, permute_swap32Table]

/-- IP^-1 after IP moves nothing (41_bit_permutation.md R126). -/
theorem permute_fipsInverseIpTable_ipTable (y : Block) :
    (permute fipsInverseIpTable (permute ipTable y : Block) : Block) = y := by
  have htables : composeTables fipsInverseIpTable ipTable = List.range' 1 64 := by decide
  rw [permute_permute fipsInverseIpTable_wellFormed rfl, htables, permute_range']

/-- IP^-1 after `swap32` is FP_ENGINE (41_bit_permutation.md R125). -/
theorem permute_fipsInverseIpTable_swap32 (w : Block) :
    (permute fipsInverseIpTable (swap32 w) : Block) = permute fpEngineTable w := by
  have htables : composeTables fipsInverseIpTable swap32Table = fpEngineTable := by decide
  rw [← permute_swap32Table, permute_permute fipsInverseIpTable_wellFormed rfl, htables]

end Sys2Proof.Machine
end

section
/-! SUPPORT. Block commands of this hardware, which is LE (00_scope.md R6): the latched word and the output word by
registers (44_block_transform.md R212, R217), how they start and finish; and when an
engine is built (41_bit_permutation.md R122). -/

namespace Sys2Proof.Machine

open Sys2Proof

/-! ### The block of a command in its registers -/

/-- The input block of this hardware is DIN1 ‖ DIN0 (20_memory.md R66). -/
theorem inputWord_fce (e : Engine) : inputWord Config.fce e = e.din1 ++ e.din0 := (load64_lanes e.din0 e.din1).left

/-- The output of this hardware goes to DOUT half by half (20_memory.md R66). -/
theorem writeOutput_fce (w : Block) (e : Engine) :
    writeOutput Config.fce w e = { e with dout0 := w.extractLsb' 0 32, dout1 := w.extractLsb' 32 32 } := by
  obtain ⟨hlow, hhigh⟩ := lanes_store64_of_le fce_byteOrder w
  rw [writeOutput, hlow, hhigh]

/-! ### The start and the end of a block command -/

/-- A block command that is accepted and passes its checks clears DONE, OVERRUN and ERR, latches DIN1 ‖ DIN0 and clears
DIN (60_exceptions.md R251, 44_block_transform.md R212). -/
theorem issueCommand_latchBlock_fce {e : Engine} (hb : e.status.busy = false) (v : Word) (op : Byte) (phase : Phase) :
    issueCommand v none (latchBlock Config.fce op phase) e = { e with
      cmd := v
      status := { busy := true, done := false, keyValid := e.status.keyValid, overrun := false, err := 0#4 }
      x := e.din1 ++ e.din0, din0 := 0#32, din1 := 0#32, op := op, rnd := 0#5, phase := phase } := by
  rw [issueCommand_started hb, latchBlock, inputWord_fce]
  rfl

/-- A block command whose issue passes its checks leaves its operands latched, and touches the engine alone. -/
theorem exec_latchBlock_fce {i : Instr} {op : Byte} {phase : Phase} {s : State} (hb : s.engine.status.busy = false)
    (hissue : issueOf Config.fce i s.engine =
      issueCommand (encode i) none (latchBlock Config.fce op phase) s.engine) :
    exec i s = .next { s with engine := { s.engine with
      cmd := encode i
      status := { busy := true, done := false, keyValid := s.engine.status.keyValid, overrun := false, err := 0#4 }
      x := s.engine.din1 ++ s.engine.din0, din0 := 0#32, din1 := 0#32, op := op, rnd := 0#5, phase := phase } } := by
  rw [exec_eq_next, hissue, issueCommand_latchBlock_fce hb]

/-- The last step of a command that leaves the word w in DOUT and clears X (41_bit_permutation.md R127, R128). -/
theorem finishCommand_writeOutput_fce (w : Block) (e : Engine) :
    finishCommand { writeOutput Config.fce w e with x := 0#64 } = { e with
      status := e.status.finished, x := 0#64, phase := .idle
      dout0 := w.extractLsb' 0 32, dout1 := w.extractLsb' 32 32 } := by
  rw [writeOutput_fce]
  rfl

/-! ### Building an engine -/

/-- An engine is built from a well-formed configuration, and then it is the engine of reset (10_state.md R52). -/
theorem buildEngine_of_wellFormed {cfg : Config} (h : cfg.wellFormed = true) :
    buildEngine cfg = some Engine.reset := if_pos h

/-- No engine is built from an ill-formed configuration (41_bit_permutation.md R122). -/
theorem buildEngine_of_not_wellFormed {cfg : Config} (h : cfg.wellFormed = false) : buildEngine cfg = none :=
  if_neg (by simp [h])

end Sys2Proof.Machine
end

section
/-! SUPPORT. The statements on the bit permutations (41_bit_permutation.md), settled. -/

open Sys2Proof Sys2Proof.Machine

/-- Settles O22: with both lengths 8 the checks pass, key or no key, and the PERM row of PERM_IP outputs IP of the
latched block. -/
theorem permIpCompletes : Obligations.PermIpCompletes := by
  refine fun s hb => ⟨exec_latchBlock_fce (i := .permIp 8#8 8#8) hb rfl, ?_⟩
  rw [controllerStep_permIp rfl rfl]
  exact congrArg some (finishCommand_writeOutput_fce (permute ipTable (s.engine.din1 ++ s.engine.din0)) _)

/-- Settles O23: with both lengths 8 the checks pass, key or no key, and the PERM row of PERM_FP outputs FP_ENGINE of the
latched block. -/
theorem permFpCompletes : Obligations.PermFpCompletes := by
  refine fun s hb => ⟨exec_latchBlock_fce (i := .permFp 8#8 8#8) hb rfl, ?_⟩
  rw [controllerStep_permFp rfl rfl]
  exact congrArg some (finishCommand_writeOutput_fce (permute fpEngineTable (s.engine.din1 ++ s.engine.din0)) _)

/-- Settles O34: position i of the output is position T[i] of the input, and position p of n is bit n - p. -/
theorem permuteMovesPositions : Obligations.PermuteMovesPositions := by
  intro n m t v hlen hrange i hi
  obtain ⟨hpos, hle⟩ := hi
  have hi' : i - 1 < t.length := by omega
  have hentry : t.getD (i - 1) 0 = t[i - 1] := List.getD_eq_getElem _ _ hi'
  rw [← getMsbD_position _ ⟨hpos, hlen ▸ hle⟩, permute_getMsbD t v hlen _ (hlen ▸ hi'), hentry,
    getMsbD_position _ (hrange _ (List.getElem_mem hi'))]

/-- Settles O35: the relations are equations of composed tables; the word 1 is moved by `swap32`. -/
theorem ipAndFpEngineRelations : Obligations.IpAndFpEngineRelations := by
  refine ⟨permute_ipTable_fpEngineTable, ⟨1#64, ?_⟩, permute_fipsInverseIpTable_ipTable, fun t ht => ?_⟩
  · rw [permute_ipTable_fpEngineTable]
    decide
  · have hwf : tableWellFormed 64 64 t = true := by
      simp only [List.mem_cons, List.not_mem_nil, or_false] at ht
      obtain rfl | rfl := ht
      · exact ipTable_wellFormed
      · exact fpEngineTable_wellFormed
    exact ⟨permute_zero hwf, permute_allOnes hwf⟩

/-- Settles O36: the entries by computation, the words by composing IP^-1 with the table of `swap32`. -/
theorem fpEngineIsSwappedInverseIp : Obligations.FpEngineIsSwappedInverseIp :=
  ⟨by decide, fun w => (permute_fipsInverseIpTable_swap32 w).symm⟩

/-- Settles O37: the tables are closed terms, and `buildEngine` asks `wellFormed` alone. -/
theorem tablesAreWellFormed : Obligations.TablesAreWellFormed :=
  ⟨by decide, by decide, by decide, by decide, fun _ => buildEngine_of_not_wellFormed,
    fun _ => buildEngine_of_wellFormed⟩

end

section
/-! SUPPORT. The round-key schedule as a function (42_round_key_schedule.md): rotations of the key halves add up (R154),
the schedule depends on the halves after PC1 alone (R152, R160), and halves of equal bits are fixed (R161). -/

namespace Sys2Proof.Machine

open Sys2Proof

/-! ### Rotations -/

/-- Two rotations in a row are one by the sum of the counts. -/
theorem rotateLeft_rotateLeft {w : Nat} (v : BitVec w) (a b : Nat) :
    (v.rotateLeft a).rotateLeft b = v.rotateLeft (a + b) := by
  apply BitVec.eq_of_getMsbD_eq
  intro i hi
  have hpos : 0 < w := by omega
  simp [BitVec.getMsbD_rotateLeft, hi, Nat.mod_lt _ hpos, Nat.add_assoc]

/-- A rotation by no position moves nothing. -/
theorem rotateLeft_zero {w : Nat} (v : BitVec w) : v.rotateLeft 0 = v := by
  apply BitVec.eq_of_getMsbD_eq
  intro i hi
  simp [BitVec.getMsbD_rotateLeft, hi, Nat.mod_eq_of_lt hi]

/-- A rotation by the width moves nothing. -/
theorem rotateLeft_width {w : Nat} (v : BitVec w) : v.rotateLeft w = v := by
  rw [← BitVec.rotateLeft_mod_eq_rotateLeft, Nat.mod_self, rotateLeft_zero]

/-- A rotation by s positions moves the high s bits behind the others (00_scope.md R12). -/
theorem rotateLeft_eq_append {n s : Nat} (hn : 0 < n) (v : BitVec (n + s)) :
    v.rotateLeft s = v.extractLsb' 0 n ++ v.extractLsb' n s := by
  apply BitVec.eq_of_getLsbD_eq
  intro i hi
  rw [BitVec.getLsbD_rotateLeft, BitVec.getLsbD_append, Nat.mod_eq_of_lt (show s < n + s by omega),
    Nat.add_sub_cancel]
  by_cases hs : i < s
  · simp [hs]
  · have hlow : i - s < n := by omega
    simp [hs, hi, hlow]

/-- A word whose bits are all equal is fixed by every rotation. -/
theorem rotateLeft_of_mem_constants {w : Nat} {v : BitVec w} (h : v ∈ [0#w, BitVec.allOnes w]) (s : Nat) :
    v.rotateLeft s = v := by
  apply BitVec.eq_of_getMsbD_eq
  intro i hi
  have hmod : (s + i) % w < w := Nat.mod_lt _ (by omega)
  simp only [List.mem_cons, List.not_mem_nil, or_false] at h
  obtain rfl | rfl := h <;> simp [BitVec.getMsbD_rotateLeft, hi, hmod]

/-! ### The running halves -/

/-- One more entry of a rotation schedule adds its count; past the schedule's end there is none. -/
theorem sum_take_add_one (t : List Nat) (n : Nat) : (t.take (n + 1)).sum = (t.take n).sum + t.getD n 0 := by
  rw [List.take_add_one, List.sum_append, List.getD_eq_getElem?_getD]
  cases t[n]? <;> simp

/-- The rotations are cumulative: the halves after n of them are those of PC1, each rotated by the sum of the counts
(42_round_key_schedule.md R154). -/
theorem keyHalves_eq_rotateLeft (cfg : Config) (k : Block) (n : Nat) :
    keyHalves cfg k n = ((splitKey cfg k).1.rotateLeft (cfg.tables.shift.take n).sum,
      (splitKey cfg k).2.rotateLeft (cfg.tables.shift.take n).sum) := by
  induction n with
  | zero => simp [keyHalves, rotateLeft_zero]
  | succ n ih => simp [keyHalves, ih, rotateHalves, rol28, rotateLeft_rotateLeft, sum_take_add_one]

/-- The schedule reads the key word through PC1 alone (42_round_key_schedule.md R152). -/
theorem keySchedule_congr {cfg : Config} {k k' : Block} (h : splitKey cfg k = splitKey cfg k') :
    keySchedule cfg k = keySchedule cfg k' := by
  simp [keySchedule, scheduledKey, keyHalves_eq_rotateLeft, h]

/-- Halves whose bits are all equal after PC1 stay as they are in every round (42_round_key_schedule.md R161). -/
theorem keyHalves_of_mem_constants {cfg : Config} {k : Block} (hc : (splitKey cfg k).1 ∈ [0#28, BitVec.allOnes 28])
    (hd : (splitKey cfg k).2 ∈ [0#28, BitVec.allOnes 28]) (n : Nat) : keyHalves cfg k n = splitKey cfg k := by
  rw [keyHalves_eq_rotateLeft, rotateLeft_of_mem_constants hc, rotateLeft_of_mem_constants hd]

/-- Slot r of a key's schedule is its round key r (42_round_key_schedule.md R157). -/
@[simp] theorem keySchedule_getElem (cfg : Config) (k : Block) (r : Nat) (hr : r < 16) :
    (keySchedule cfg k)[r] = scheduledKey cfg k r := by
  simp [keySchedule]

/-! ### Key parity -/

/-- A permutation reads the positions its table lists, and no others (41_bit_permutation.md R121). -/
theorem permute_congr {n m : Nat} {t : List Nat} {v v' : BitVec n}
    (h : ∀ p ∈ t, v.getMsbD (p - 1) = v'.getMsbD (p - 1)) : (permute t v : BitVec m) = permute t v' := by
  rw [permute, permute, List.map_congr_left h]

/-- PC1 lists no position of a parity bit (42_round_key_schedule.md R160). -/
theorem pc1Table_skips_parity : ∀ p ∈ pc1Table, (1 ≤ p ∧ p ≤ 64) ∧ (64 - p) % 8 ≠ 0 := by decide

/-- The halves after PC1 do not depend on the parity bits (42_round_key_schedule.md R160). -/
theorem splitKey_fce_congr {k k' : Block} (h : ∀ i, i < 64 → i % 8 ≠ 0 → k.getLsbD i = k'.getLsbD i) :
    splitKey Config.fce k = splitKey Config.fce k' := by
  have hpc1 : (permute pc1Table k : BitVec 56) = permute pc1Table k' := permute_congr fun p hp => by
    obtain ⟨hpos, hparity⟩ := pc1Table_skips_parity p hp
    rw [getMsbD_position k hpos, getMsbD_position k' hpos, h (64 - p) (by omega) hparity]
  rw [splitKey, splitKey, fce_tables, desStd_pc1, hpc1]

/-! ### Weak keys -/

/-- The four weak keys (42_round_key_schedule.md R161). -/
def weakKeys : List Block :=
  [0x0101010101010101#64, 0xFEFEFEFEFEFEFEFE#64, 0x1F1F1F1F0E0E0E0E#64, 0xE0E0E0E0F1F1F1F1#64]

/-- Each half of a weak key after PC1 has its bits all equal. -/
theorem splitKey_of_mem_weakKeys {k : Block} (h : k ∈ weakKeys) :
    (splitKey Config.fce k).1 ∈ [0#28, BitVec.allOnes 28] ∧
      (splitKey Config.fce k).2 ∈ [0#28, BitVec.allOnes 28] := by
  simp only [weakKeys, List.mem_cons, List.not_mem_nil, or_false] at h
  obtain rfl | rfl | rfl | rfl := h <;> decide +kernel

/-- The round keys of a weak key are all the same. -/
theorem scheduledKey_of_mem_weakKeys {k : Block} (h : k ∈ weakKeys) (r : Nat) :
    scheduledKey Config.fce k r = compressKey Config.fce (splitKey Config.fce k) := by
  obtain ⟨hc, hd⟩ := splitKey_of_mem_weakKeys h
  rw [scheduledKey, keyHalves_of_mem_constants hc hd]

/-- The block transform reads the round keys in the order of its rounds, and nothing else of the key order or the file
(44_block_transform.md R220). -/
theorem blockTransform_congr (cfg : Config) {dir dir' : KeyOrder} {rk rk' : KeyFile}
    (h : ∀ r, roundKey dir rk r = roundKey dir' rk' r) (w : Block) :
    blockTransform cfg dir rk w = blockTransform cfg dir' rk' w := by
  have hrounds (n : Nat) : roundHalves cfg dir rk w n = roundHalves cfg dir' rk' w n := by
    induction n with
    | zero => rfl
    | succ n ih => rw [roundHalves, roundHalves, ih, h]
  rw [blockTransform, blockTransform, hrounds]

end Sys2Proof.Machine
end

section
/-! SUPPORT. KEYSET from its CMD write to its last step (42_round_key_schedule.md R158), and who writes RK (R159). -/

namespace Sys2Proof.Machine

open Sys2Proof

/-! ### The sixteen rounds -/

/-- A run along a sequence of engines, each the controller's next of the one before. -/
theorem runController_of_steps {cfg : Config} {f : Nat → Engine} {n : Nat}
    (h : ∀ i < n, controllerStep cfg (f i) = some (f (i + 1))) : runController cfg n (f 0) = some (f n) := by
  induction n with
  | zero => rfl
  | succ n ih =>
    rw [runController_add, ih fun i hi => h i (by omega), Option.bind_some, runController_succ (h n (by omega))]
    rfl

/-- The round-key file after n rounds: the first n slots hold round keys of k, the others what they held. -/
def partialSchedule (cfg : Config) (k : Block) (rk : KeyFile) (n : Nat) : KeyFile :=
  Vector.ofFn fun i => if i.val < n then scheduledKey cfg k i.val else rk[i]

/-- Before the first round the file is as it was. -/
@[simp] theorem partialSchedule_zero (cfg : Config) (k : Block) (rk : KeyFile) : partialSchedule cfg k rk 0 = rk := by
  apply Vector.ext
  simp [partialSchedule]

/-- A round fills the next slot (42_round_key_schedule.md R156). -/
theorem partialSchedule_set (cfg : Config) (k : Block) (rk : KeyFile) (r : Fin 16) :
    (partialSchedule cfg k rk r.val).set r.val (scheduledKey cfg k r.val) r.isLt =
      partialSchedule cfg k rk (r.val + 1) := by
  apply Vector.ext
  intro i hi
  simp only [partialSchedule, Vector.getElem_set, Vector.getElem_ofFn]
  split
  · rename_i hri
    simp [← hri]
  · have hlt : i < r.val ↔ i < r.val + 1 := by omega
    simp [hlt]

/-- After sixteen rounds the file is the schedule, whatever it held (42_round_key_schedule.md R157). -/
theorem partialSchedule_sixteen (cfg : Config) (k : Block) (rk : KeyFile) :
    partialSchedule cfg k rk 16 = keySchedule cfg k :=
  eq_keySchedule_of_forall fun i => by simp [partialSchedule]

/-- The engine after KEYSET's INIT step and n rounds, from the engine e in which the key was latched. -/
def keysetAfterRounds (cfg : Config) (e : Engine) (n : Nat) : Engine :=
  { keysetInit cfg e with
    c := (keyHalves cfg e.x n).1, d := (keyHalves cfg e.x n).2, rk := partialSchedule cfg e.x e.rk n
    rnd := BitVec.ofNat 5 n, phase := if n = 16 then .final else .round }

/-- The INIT step of KEYSET comes before all rounds. -/
theorem keysetInit_eq_keysetAfterRounds {cfg : Config} {e : Engine} (hrnd : e.rnd = 0#5) :
    keysetInit cfg e = keysetAfterRounds cfg e 0 := by
  simp [keysetAfterRounds, keysetInit, keyHalves, hrnd]

/-- The ROUND step of KEYSET with RND = r takes the engine after r rounds to the one after r + 1. -/
theorem keysetRound_keysetAfterRounds (cfg : Config) (e : Engine) (r : Fin 16) :
    keysetRound cfg r (keysetAfterRounds cfg e r.val) = keysetAfterRounds cfg e (r.val + 1) := by
  rw [keysetAfterRounds, keysetAfterRounds, ← partialSchedule_set]
  rfl

/-- While a round is left the controller takes it. -/
theorem controllerStep_keysetAfterRounds {cfg : Config} {e : Engine} (ho : e.op = opKeyset) {n : Nat} (hn : n < 16) :
    controllerStep cfg (keysetAfterRounds cfg e n) = some (keysetAfterRounds cfg e (n + 1)) := by
  have hphase : (keysetAfterRounds cfg e n).phase = .round := if_neg (by omega)
  have hrnd : (keysetAfterRounds cfg e n).rnd.toNat = n := by
    simp only [keysetAfterRounds, BitVec.toNat_ofNat]
    omega
  rw [controllerStep_round_keyset hphase ho ⟨n, hn⟩ hrnd, keysetRound_keysetAfterRounds]

/-- The FINAL step of KEYSET leaves the complete schedule and clears the halves (42_round_key_schedule.md R158). -/
theorem keysetFinal_keysetAfterRounds (cfg : Config) (e : Engine) :
    keysetFinal (keysetAfterRounds cfg e 16) = { e with
      x := 0#64, c := 0#28, d := 0#28, rnd := 0#5, phase := .idle
      status := { e.status with busy := false, done := true, keyValid := true }
      rk := keySchedule cfg e.x } := by
  rw [keysetAfterRounds, partialSchedule_sixteen]
  rfl

/-- The 18 steps of KEYSET are INIT, sixteen rounds and FINAL, and compute KS (42_round_key_schedule.md R157, R158). -/
theorem runController_keyset {cfg : Config} {e : Engine} (hp : e.phase = .init) (ho : e.op = opKeyset)
    (hrnd : e.rnd = 0#5) :
    runController cfg 18 e = some { e with
      x := 0#64, c := 0#28, d := 0#28, rnd := 0#5, phase := .idle
      status := { e.status with busy := false, done := true, keyValid := true }
      rk := keySchedule cfg e.x } := by
  have hinit : controllerStep cfg e = some (keysetAfterRounds cfg e 0) := by
    rw [controllerStep_init_keyset hp ho, keysetInit_eq_keysetAfterRounds hrnd]
  have hrounds : runController cfg 16 (keysetAfterRounds cfg e 0) = some (keysetAfterRounds cfg e 16) :=
    runController_of_steps fun n hn => controllerStep_keysetAfterRounds ho hn
  have hfinal : controllerStep cfg (keysetAfterRounds cfg e 16) = some (keysetFinal (keysetAfterRounds cfg e 16)) :=
    controllerStep_final_keyset rfl ho
  rw [runController_succ hinit, runController_add cfg 16 1, hrounds, Option.bind_some, runController_succ hfinal,
    keysetFinal_keysetAfterRounds]
  rfl

/-! ### The CMD write -/

/-- The key word of this hardware is KEY1 ‖ KEY0 (20_memory.md R66). -/
theorem keyWord_fce (e : Engine) : keyWord Config.fce e = e.key1 ++ e.key0 := (load64_lanes e.key0 e.key1).left

/-- The word of KEYSET with an 8-byte key (30_encoding.md R90, R92). -/
theorem encode_keyset_eight (m : Byte) : encode (.keyset 8#8 m) = m ++ 0x080001#24 := by
  apply BitVec.eq_of_toNat_eq
  rw [encode_toNat, toNat_append_add]
  simp only [Instr.outLen, Instr.inLen, Instr.opcode, opKeyset, BitVec.toNat_ofNat]
  omega

/-- KEYSET with an 8-byte key is accepted outside a command: it latches KEY1 ‖ KEY0, clears KEY and all flags but BUSY
(60_exceptions.md R251, 42_round_key_schedule.md R158). -/
theorem issueKeyset_fce {e : Engine} (hb : e.status.busy = false) (m : Byte) :
    issueKeyset Config.fce 8#8 m e = { e with
      cmd := m ++ 0x080001#24
      status := { busy := true, done := false, keyValid := false, overrun := false, err := 0#4 }
      x := e.key1 ++ e.key0, key0 := 0#32, key1 := 0#32, op := 0x01#8, rnd := 0#5, phase := .init } := by
  have hcheck : checkKeyLength Config.fce 8#8 = none := (checkKeyLength_eq_none _ _).mpr rfl
  rw [issueKeyset, hcheck, issueCommand_started hb, latchKey, keyWord_fce, encode_keyset_eight]
  rfl

/-! ### Who writes RK -/

/-- A CMD write leaves RK alone (42_round_key_schedule.md R159). -/
theorem CommandOutcome.rk_eq {cfg : Config} {v : Word} {e e' : Engine} (h : CommandOutcome cfg v e e') :
    e'.rk = e.rk := by
  cases h <;> rfl

/-- A register write leaves RK alone (10_state.md R40). -/
theorem writeReg_rk (r : Reg) (v : Word) (e : Engine) : (writeReg r v e).rk = e.rk := by cases r <;> rfl

/-- The ROUND step of KEYSET with RND = r changes slot r alone (10_state.md R40). -/
theorem keysetRound_rk_of_ne (cfg : Config) (e : Engine) {r i : Fin 16} (h : i.val ≠ r.val) :
    (keysetRound cfg r e).rk[i] = e.rk[i] := by
  simp [keysetRound_eq, h.symm]

/-- A controller step leaves RK alone, or is a ROUND step of KEYSET and changes slot RND alone
(42_round_key_schedule.md R159). -/
theorem controllerStep_rk {cfg : Config} {e e' : Engine} (h : controllerStep cfg e = some e') :
    e'.rk = e.rk ∨
    (e.phase = .round ∧ e.op = opKeyset ∧ ∀ i : Fin 16, i.val ≠ e.rnd.toNat → e'.rk[i] = e.rk[i]) := by
  obtain ⟨-, rfl⟩ | ⟨-, -, rfl⟩ | ⟨-, -, rfl⟩ | ⟨hp, ho, r, hr, rfl⟩ | ⟨-, _, -, _, -, rfl⟩ | ⟨-, -, rfl⟩ |
    ⟨-, -, rfl⟩ | ⟨-, -, rfl⟩ | ⟨-, -, rfl⟩ := controllerStep_cases h
  case inr.inr.inr.inl => exact .inr ⟨hp, ho, fun i hi => keysetRound_rk_of_ne cfg e (hr ▸ hi)⟩
  all_goals exact .inl rfl

end Sys2Proof.Machine
end

section
/-! SUPPORT. The statements on the round-key schedule (42_round_key_schedule.md), settled. -/

open Sys2Proof Sys2Proof.Machine

/-- Settles O32: INIT, sixteen rounds that fill one slot each, and FINAL. -/
theorem keysetStepsComputeKeySchedule : Obligations.KeysetStepsComputeKeySchedule :=
  fun _ _ => runController_keyset

/-- Settles O19: the length check passes, and the 18 steps from the latched key compute its schedule. -/
theorem keysetCompletes : Obligations.KeysetCompletes := by
  refine fun s m hb => ⟨?_, runController_keyset rfl rfl rfl⟩
  rw [exec_eq_next, issueOf, issueKeyset_fce hb]

/-- Settles O28: the rows of KEYSET in the controller's table, and a rotation as an exchange of two fields. -/
theorem keysetSteps : Obligations.KeysetSteps :=
  fun _ _ ho => ⟨fun hp => controllerStep_init_keyset hp ho, fun r hp hr => controllerStep_round_keyset hp ho r hr,
    fun hp => controllerStep_final_keyset hp ho,
    fun v => ⟨rotateLeft_eq_append (n := 27) (s := 1) (by decide) v,
      rotateLeft_eq_append (n := 26) (s := 2) (by decide) v⟩⟩

/-- Settles O41: the running halves are those of PC1 rotated by the sum of the counts. -/
theorem rotationsAreCumulative : Obligations.RotationsAreCumulative := by
  intro cfg k r _ _
  rw [scheduledKey, compressKey, keyHalves_eq_rotateLeft]

/-- Settles O42: PC1 lists no parity position, and the schedule reads the key through PC1 alone. -/
theorem keyParityIsIgnored : Obligations.KeyParityIsIgnored :=
  fun _ _ h => keySchedule_congr (splitKey_fce_congr h)

/-- Settles O43: the sixteen counts of SHIFT add up to the width of a half, and no rotation moves the halves of a weak
key. -/
theorem halvesReturnAndWeakKeys : Obligations.HalvesReturnAndWeakKeys := by
  refine ⟨fun k => ?_, fun k hk => ?_⟩
  · have hsum : (Config.fce.tables.shift.take 16).sum = 28 := by decide
    rw [keyHalves_eq_rotateLeft, hsum, rotateLeft_width, rotateLeft_width, keyHalves]
  · have hequal (i j : Fin 16) : (keySchedule Config.fce k)[i] = (keySchedule Config.fce k)[j] := by
      simp [scheduledKey_of_mem_weakKeys hk]
    exact ⟨hequal, blockTransform_congr _ fun r => hequal r r.rev⟩

/-- Settles O51: of the effects of a step only reset and a ROUND step of KEYSET touch RK. -/
theorem roundKeysWrittenByKeysetAndResetAlone : Obligations.RoundKeysWrittenByKeysetAndResetAlone := by
  intro s t h hchanged
  obtain ⟨rest, hev, -⟩ | ⟨v, rest, hev, he⟩ | ⟨hturn, hc⟩ | ⟨r, v, he⟩ := step_effect h
  · exact .inl ⟨rest, hev⟩
  · exact absurd (he ▸ (commandEngine_outcome Config.fce v s.engine).rk_eq) hchanged
  · obtain hsame | hround := controllerStep_rk hc
    · exact absurd hsame hchanged
    · exact .inr ⟨hturn, hround⟩
  · exact absurd (he ▸ writeReg_rk r v s.engine) hchanged

end

section
/-! SUPPORT. The Feistel function (43_feistel_function.md): a permutation of the complement (R190), the lanes of the
substitution (R183, R186, R188), and a flattened S-box by row and column (R184). -/

namespace Sys2Proof.Machine

open Sys2Proof

/-! ### Complements -/

/-- A well-formed table takes the complement of a word to the complement of its permutation (41_bit_permutation.md
R121). -/
theorem permute_not {n m : Nat} {t : List Nat} (ht : tableWellFormed n m t = true) (v : BitVec n) :
    (permute t (~~~v) : BitVec m) = ~~~(permute t v) := by
  obtain ⟨hlen, -⟩ := tableWellFormed_iff.mp ht
  apply BitVec.eq_of_getMsbD_eq
  intro i hi
  obtain ⟨hpos, hle⟩ := getD_position_of_tableWellFormed ht hi
  have hin : t.getD i 0 - 1 < n := by omega
  rw [permute_getMsbD t _ hlen i hi, BitVec.getMsbD_not, BitVec.getMsbD_not, permute_getMsbD t v hlen i hi,
    decide_eq_true hin, decide_eq_true hi]

/-- F of the complements of both inputs is F, for every well-formed expansion table (43_feistel_function.md R190). -/
theorem feistel_not_not {cfg : Config} (he : tableWellFormed 32 48 cfg.tables.e = true) (r : HalfBlock) (k : RoundKey) :
    feistel cfg (~~~r) (~~~k) = feistel cfg r k := by
  rw [feistel, feistel, expand, expand, permute_not he, ← BitVec.not_xor_left, ← BitVec.not_xor_right, BitVec.not_not]

/-! ### Lanes -/

/-- The bits [31-4j:28-4j] of the substitution are the output of lane j + 1 (43_feistel_function.md R186, R188). -/
theorem substitute_lane (cfg : Config) (x : BitVec 48) (j : Fin 8) :
    (substitute cfg x).extractLsb' (28 - 4 * j.val) 4 = sboxLane cfg x j := by
  fin_cases j <;>
    simp (disch := omega) only [substitute, BitVec.extractLsb'_append_eq_of_le, BitVec.extractLsb'_append_eq_of_add_le,
      Nat.reduceMul, Nat.reduceSub, BitVec.extractLsb'_eq_self, Fin.reduceFinMk]

/-! ### Printed S-boxes -/

/-- TABLE_1 to TABLE_8 as printed (43_feistel_function.md R185). -/
def printedSboxes : Vector (List (List Nat)) 8 :=
  #v[s1Rows, s2Rows, s3Rows, s4Rows, s5Rows, s6Rows, s7Rows, s8Rows]

/-- The S-boxes of DES_STD are the printed ones, flattened. -/
theorem desStd_sboxes : desStd.sboxes = printedSboxes.map flattenSbox := by
  simp [desStd, printedSboxes]

/-- Every printed box has four rows of sixteen entries (43_feistel_function.md R185). -/
theorem printedSboxes_row_length (j : Fin 8) (row : Fin 4) : (printedSboxes[j].getD row.val []).length = 16 := by
  revert j row
  decide

/-- A flattened box at group g is the printed entry at row 2 g[5] + g[0] and column g[4:1] (43_feistel_function.md
R184). -/
theorem flattenSbox_getD (rows : List (List Nat)) {g row col : Nat} (hg : g < 64) (hrow : 2 * (g / 32) + g % 2 = row)
    (hcol : g / 2 % 16 = col) : (flattenSbox rows).getD g 0 = (rows.getD row []).getD col 0 := by
  subst hrow hcol
  rw [flattenSbox, List.getD_eq_getElem _ _ (by simpa using hg), List.getElem_map, List.getElem_range]

end Sys2Proof.Machine
end

section
/-! SUPPORT. The statements on the Feistel function (43_feistel_function.md), settled. -/

open Sys2Proof Sys2Proof.Machine

/-- Settles O39: the word of the lanes is the substitution; a printed row is complete, so no default is read. -/
theorem feistelFunctionByLanes : Obligations.FeistelFunctionByLanes := by
  refine ⟨fun cfg r k => ⟨substitute cfg (expand cfg r ^^^ k), rfl, substitute_lane cfg _⟩, fun j row col => ?_⟩
  have hcol : col.val < (printedSboxes[j].getD row.val []).length := by
    rw [printedSboxes_row_length]
    exact col.isLt
  calc desStd.sboxes[j].getD (32 * (row.val / 2) + 2 * col.val + row.val % 2) 0
      = (flattenSbox printedSboxes[j]).getD (32 * (row.val / 2) + 2 * col.val + row.val % 2) 0 := by
        simp [desStd_sboxes]
    _ = (printedSboxes[j].getD row.val []).getD col.val 0 :=
        flattenSbox_getD _ (by omega) (by omega) (by omega)
    _ = (printedSboxes[j].getD row.val []).getD col.val 16 := by
        rw [List.getD_eq_getElem _ _ hcol, List.getD_eq_getElem _ _ hcol]

/-- Settles O40: E is well-formed, so it takes the complement of r to the complement of E(r). -/
theorem feistelFunctionOfComplements : Obligations.FeistelFunctionOfComplements :=
  feistel_not_not (by decide)

end

section
/-! SUPPORT. The block transform as a function (44_block_transform.md R220, R225): its rounds undone in reverse order,
and the transform of complements. -/

namespace Sys2Proof.Machine

open Sys2Proof

/-! ### Halves of a block -/

/-- `swap32` of two halves (00_scope.md R12). -/
theorem swap32_append (l r : HalfBlock) : swap32 (l ++ r) = r ++ l := by
  rw [swap32, BitVec.extractLsb'_append_eq_right, BitVec.extractLsb'_append_eq_left]

/-- `swap32` undoes itself (00_scope.md R12). -/
theorem swap32_swap32 (w : Block) : swap32 (swap32 w) = w :=
  (swap32_append _ _).trans BitVec.extractLsb'_append_extractLsb'

/-- The halves of a block, joined in the other order, are its `swap32`. -/
theorem splitBlock_swap_append (cfg : Config) (w : Block) :
    ((splitBlock cfg w).2 ++ (splitBlock cfg w).1 : Block) = swap32 (initialPermutation cfg w) := rfl

/-! ### Decryption and encryption -/

/-- The other key order (44_block_transform.md R215). -/
def KeyOrder.other : KeyOrder → KeyOrder
  | .enc => .dec
  | .dec => .enc

/-- The other key order reads the round keys from the other end (44_block_transform.md R215). -/
theorem roundKey_other (dir : KeyOrder) (rk : KeyFile) (r : Fin 16) :
    roundKey dir.other rk r = roundKey dir rk r.rev := by
  cases dir with
  | enc => rfl
  | dec => simp [KeyOrder.other, roundKey]

/-- A round, undone by the same round on the exchanged halves (44_block_transform.md R225). -/
theorem feistelRound_swap_feistelRound (cfg : Config) (k : RoundKey) (lr : HalfBlock × HalfBlock) :
    feistelRound cfg k (feistelRound cfg k lr).swap = lr.swap := by
  obtain ⟨l, r⟩ := lr
  simp [feistelRound]

section InvertiblePermutations

/-! The premise of 44_block_transform.md R225: IP after FP is `swap32`. -/

variable {cfg : Config} (hperm : ∀ y : Block, initialPermutation cfg (finalPermutation cfg y) = swap32 y)
include hperm

/-- Splitting the output gives the last halves, exchanged. -/
theorem splitBlock_joinHalves (lr : HalfBlock × HalfBlock) : splitBlock cfg (joinHalves cfg lr) = lr.swap := by
  rw [splitBlock, joinHalves, hperm, swap32_append, BitVec.extractLsb'_append_eq_right,
    BitVec.extractLsb'_append_eq_left]
  rfl

/-- FP of IP's output with its halves exchanged is the block: IP is onto, so it is one-to-one. -/
theorem finalPermutation_swap32_initialPermutation (w : Block) :
    finalPermutation cfg (swap32 (initialPermutation cfg w)) = w := by
  have honto : Function.Surjective (initialPermutation cfg) := fun y =>
    ⟨finalPermutation cfg (swap32 y), by rw [hperm, swap32_swap32]⟩
  apply Finite.injective_iff_surjective.mpr honto
  rw [hperm, swap32_swap32]

/-- The first n rounds of the other key order undo the last n rounds on the output, with the halves exchanged. -/
theorem roundHalves_other (dir : KeyOrder) (rk : KeyFile) (w : Block) {n : Nat} (hn : n ≤ 16) :
    roundHalves cfg dir.other rk (blockTransform cfg dir rk w) n = (roundHalves cfg dir rk w (16 - n)).swap := by
  induction n with
  | zero => exact splitBlock_joinHalves hperm _
  | succ n ih =>
    have hround : 16 - n = 16 - (n + 1) + 1 := by omega
    have hkey : (Fin.ofNat 16 n).rev = Fin.ofNat 16 (16 - (n + 1)) := by
      apply Fin.ext
      simp only [Fin.val_rev, Fin.val_ofNat]
      omega
    rw [roundHalves, ih (by omega), hround, roundHalves, roundKey_other, hkey, feistelRound_swap_feistelRound]

/-- The transform with the other key order undoes it (44_block_transform.md R225). -/
theorem blockTransform_other (dir : KeyOrder) (rk : KeyFile) (w : Block) :
    blockTransform cfg dir.other rk (blockTransform cfg dir rk w) = w := by
  rw [blockTransform, roundHalves_other hperm dir rk w le_rfl, joinHalves, Prod.fst_swap, Prod.snd_swap, roundHalves,
    splitBlock_swap_append, finalPermutation_swap32_initialPermutation hperm]

end InvertiblePermutations

/-- The tables of this hardware meet the premise of R225 (41_bit_permutation.md R126). -/
theorem initialPermutation_finalPermutation_fce (y : Block) :
    initialPermutation Config.fce (finalPermutation Config.fce y) = swap32 y := permute_ipTable_fpEngineTable y

/-- DECRYPT reads the round keys from the last to the first (44_block_transform.md R214). -/
theorem roundKey_dec (rk : KeyFile) (r : Fin 16) : roundKey .dec rk r = rk[15 - r.val] := by
  have hrev : 15 - r.val = r.rev.val := by
    rw [Fin.val_rev]
    omega
  simp only [hrev]
  rfl

/-- Where the round keys read the same in both orders, both key orders give every round the same key. -/
theorem roundKey_enc_eq_dec {rk : KeyFile} (h : ∀ r : Fin 16, rk[r.val] = rk[15 - r.val]) (r : Fin 16) :
    roundKey .enc rk r = roundKey .dec rk r :=
  (h r).trans (roundKey_dec rk r).symm

/-! ### Complements -/

/-- A field of the complement is the complement of the field, up to the top field, which the library's lemma leaves
out. -/
theorem extractLsb'_not_of_le {n start len : Nat} (x : BitVec n) (h : start + len ≤ n) :
    (~~~x).extractLsb' start len = ~~~(x.extractLsb' start len) := by
  apply BitVec.eq_of_getLsbD_eq
  intro i hi
  have hin : start + i < n := by omega
  simp [hi, hin]

/-- A rotation of the complement is the complement of the rotation. -/
theorem rotateLeft_not {w : Nat} (v : BitVec w) (s : Nat) : (~~~v).rotateLeft s = ~~~(v.rotateLeft s) := by
  apply BitVec.eq_of_getMsbD_eq
  intro i hi
  have hmod : (s + i) % w < w := Nat.mod_lt _ (by omega)
  simp [BitVec.getMsbD_rotateLeft, hi, hmod]

/-- The halves of the complement of a key are the complements of its halves. -/
theorem keyHalves_not {cfg : Config} (hpc1 : tableWellFormed 64 56 cfg.tables.pc1 = true) (k : Block) (n : Nat) :
    keyHalves cfg (~~~k) n = (~~~(keyHalves cfg k n).1, ~~~(keyHalves cfg k n).2) := by
  have hsplit : splitKey cfg (~~~k) = (~~~(splitKey cfg k).1, ~~~(splitKey cfg k).2) := by
    simp [splitKey, permute_not hpc1, extractLsb'_not_of_le]
  simp [keyHalves_eq_rotateLeft, hsplit, rotateLeft_not]

/-- Each round key of the complement of a key is the complement of its round key (44_block_transform.md R225). -/
theorem scheduledKey_not {cfg : Config} (hpc1 : tableWellFormed 64 56 cfg.tables.pc1 = true)
    (hpc2 : tableWellFormed 56 48 cfg.tables.pc2 = true) (k : Block) (r : Nat) :
    scheduledKey cfg (~~~k) r = ~~~(scheduledKey cfg k r) := by
  rw [scheduledKey, keyHalves_not hpc1, compressKey, ← BitVec.not_append, permute_not hpc2]
  rfl

/-- Both halves after n rounds are complemented when the block and the round keys are: F is the same for the complements
of both its inputs (43_feistel_function.md R190, 44_block_transform.md R225). -/
theorem roundHalves_not {cfg : Config} (hip : tableWellFormed 64 64 cfg.tables.ip = true)
    (he : tableWellFormed 32 48 cfg.tables.e = true) {dir : KeyOrder} {rk rk' : KeyFile}
    (hrk : ∀ r, roundKey dir rk' r = ~~~(roundKey dir rk r)) (w : Block) (n : Nat) :
    roundHalves cfg dir rk' (~~~w) n = (~~~(roundHalves cfg dir rk w n).1, ~~~(roundHalves cfg dir rk w n).2) := by
  induction n with
  | zero => simp [roundHalves, splitBlock, initialPermutation, permute_not hip, extractLsb'_not_of_le]
  | succ n ih => simp [roundHalves, ih, hrk, feistelRound, feistel_not_not he, BitVec.not_xor_left]

/-- The transform of the complement of the block under the complements of the round keys is the complement
(44_block_transform.md R225). -/
theorem blockTransform_not {cfg : Config} (hip : tableWellFormed 64 64 cfg.tables.ip = true)
    (hfp : tableWellFormed 64 64 cfg.tables.fp = true) (he : tableWellFormed 32 48 cfg.tables.e = true)
    {dir : KeyOrder} {rk rk' : KeyFile} (hrk : ∀ r, roundKey dir rk' r = ~~~(roundKey dir rk r)) (w : Block) :
    blockTransform cfg dir rk' (~~~w) = ~~~(blockTransform cfg dir rk w) := by
  rw [blockTransform, roundHalves_not hip he hrk, joinHalves, finalPermutation, ← BitVec.not_append, permute_not hfp]
  rfl

end Sys2Proof.Machine
end

section
/-! SUPPORT. The rows of the controller's table (44_block_transform.md R211), the count of a command's steps (R221), and
that every event answers a next state under the invariant (R223). -/

namespace Sys2Proof.Machine

open Sys2Proof

/-! ### The rows -/

/-- A run of one step. -/
theorem runController_one (cfg : Config) (e : Engine) : runController cfg 1 e = controllerStep cfg e := by
  simp only [runController, Option.bind_fun_some]

/-- The PERM row ends the command. -/
theorem exists_controllerStep_perm (cfg : Config) {e : Engine} (hp : e.phase = .perm)
    (ho : e.op ∈ [opPermIp, opPermFp]) : ∃ e', controllerStep cfg e = some e' ∧ e'.phase = .idle := by
  obtain ho | ho := List.mem_pair.mp ho
  · exact ⟨_, controllerStep_permIp hp ho, rfl⟩
  · exact ⟨_, controllerStep_permFp hp ho, rfl⟩

section IteratedCommand

/-! KEYSET, ENCRYPT or DECRYPT is running. -/

variable (cfg : Config) {e : Engine} (ho : e.op ∈ [opKeyset, opEncrypt, opDecrypt])
include ho

/-- The INIT row leaves OP and RND as they are. -/
theorem exists_controllerStep_init (hp : e.phase = .init) :
    ∃ e', controllerStep cfg e = some e' ∧ e'.op = e.op ∧ e'.phase = .round ∧ e'.rnd = e.rnd := by
  obtain ho | ⟨dir, ho⟩ := opKeyset_or_opcode ho
  · exact ⟨_, controllerStep_init_keyset hp ho, rfl, rfl, rfl⟩
  · exact ⟨_, controllerStep_init_cipher hp ho, rfl, rfl, rfl⟩

/-- The ROUND row counts, and goes on to FINAL after round 15. -/
theorem exists_controllerStep_round (hp : e.phase = .round) (r : Fin 16) (hr : e.rnd.toNat = r.val) :
    ∃ e', controllerStep cfg e = some e' ∧ e'.op = e.op ∧
      e'.phase = (if r.val + 1 = 16 then .final else .round) ∧ e'.rnd.toNat = r.val + 1 := by
  obtain ho | ⟨dir, ho⟩ := opKeyset_or_opcode ho
  · exact ⟨_, controllerStep_round_keyset hp ho r hr, rfl, rfl, advanceRound_rnd_toNat r _⟩
  · exact ⟨_, controllerStep_round_cipher hp ho r hr, rfl, rfl, advanceRound_rnd_toNat r _⟩

/-- The FINAL row ends the command. -/
theorem exists_controllerStep_final (hp : e.phase = .final) :
    ∃ e', controllerStep cfg e = some e' ∧ e'.op = e.op ∧ e'.phase = .idle := by
  obtain ho | ⟨dir, ho⟩ := opKeyset_or_opcode ho
  · exact ⟨_, controllerStep_final_keyset hp ho, rfl, rfl⟩
  · exact ⟨_, controllerStep_final_cipher hp ho, rfl, rfl⟩

end IteratedCommand

/-- Where the table of 44_block_transform.md R211 has no row: an opcode of another PHASE, or ROUND with RND over 15. -/
def Engine.NoRow (e : Engine) : Prop :=
  e.phase ≠ .idle ∧ e.phase ≠ .perm ∧ e.op ∉ [opKeyset, opEncrypt, opDecrypt] ∨
    e.phase = .round ∧ 15 < e.rnd.toNat ∨ e.phase = .perm ∧ e.op ∉ [opPermIp, opPermFp]

/-- In IDLE everything is held: there is nothing to look up. -/
theorem not_noRow_idle {e : Engine} (hp : e.phase = .idle) : ¬ e.NoRow := by
  simp [Engine.NoRow, hp]

/-- KEYSET, ENCRYPT and DECRYPT have a row in INIT, ROUND and FINAL, while RND is at most 15 in ROUND. -/
theorem not_noRow_of_mem {e : Engine} (hp : e.phase ≠ .perm) (ho : e.op ∈ [opKeyset, opEncrypt, opDecrypt])
    (hr : e.phase = .round → e.rnd.toNat ≤ 15) : ¬ e.NoRow := by
  rintro (⟨-, -, hop⟩ | ⟨hround, hrnd⟩ | ⟨hperm, -⟩)
  · exact hop ho
  · exact absurd (hr hround) (by omega)
  · exact hp hperm

/-- PERM_IP and PERM_FP have a row in PERM. -/
theorem not_noRow_perm {e : Engine} (hp : e.phase = .perm) (ho : e.op ∈ [opPermIp, opPermFp]) : ¬ e.NoRow := by
  simp [Engine.NoRow, hp, ho]

/-- A controller step is the step of a row. -/
theorem not_noRow_of_controllerStep {cfg : Config} {e e' : Engine} (h : controllerStep cfg e = some e') :
    ¬ e.NoRow := by
  have hkeyset (ho : e.op = opKeyset) : e.op ∈ [opKeyset, opEncrypt, opDecrypt] := by simp [ho]
  have hcipher (dir : KeyOrder) (ho : e.op = dir.opcode) : e.op ∈ [opKeyset, opEncrypt, opDecrypt] :=
    List.mem_cons_of_mem _ (mem_of_opcode ho)
  obtain ⟨hp, -⟩ | ⟨hp, ho, -⟩ | ⟨hp, ⟨dir, ho⟩, -⟩ | ⟨hp, ho, r, hr, -⟩ | ⟨hp, dir, ho, r, hr, -⟩ | ⟨hp, ho, -⟩ |
    ⟨hp, ⟨dir, ho⟩, -⟩ | ⟨hp, ho, -⟩ | ⟨hp, ho, -⟩ := controllerStep_cases h
  · exact not_noRow_idle hp
  · exact not_noRow_of_mem (by simp [hp]) (hkeyset ho) (by simp [hp])
  · exact not_noRow_of_mem (by simp [hp]) (hcipher dir ho) (by simp [hp])
  · exact not_noRow_of_mem (by simp [hp]) (hkeyset ho) (fun _ => by omega)
  · exact not_noRow_of_mem (by simp [hp]) (hcipher dir ho) (fun _ => by omega)
  · exact not_noRow_of_mem (by simp [hp]) (hkeyset ho) (by simp [hp])
  · exact not_noRow_of_mem (by simp [hp]) (hcipher dir ho) (by simp [hp])
  · exact not_noRow_perm hp (by simp [ho])
  · exact not_noRow_perm hp (by simp [ho])

/-- Where the table has no row the controller has no step. -/
theorem controllerStep_eq_none {cfg : Config} {e : Engine} (h : e.NoRow) : controllerStep cfg e = none :=
  Option.eq_none_iff_forall_ne_some.mpr fun _ hstep => not_noRow_of_controllerStep hstep h

/-! ### The machine's turns -/

/-- With nothing pending a controller step is the machine's. -/
theorem step_of_controllerStep {s : State} {e : Engine} (hev : s.events = [])
    (h : controllerStep Config.fce s.engine = some e) : step s = .next { s with engine := e } :=
  (step_of_nil hev).trans (controllerTurn_eq_next.mpr ⟨e, h, rfl⟩)

/-- With nothing pending the machine stops where the controller has no step (log 6). -/
theorem step_of_controllerStep_eq_none {s : State} (hev : s.events = [])
    (h : controllerStep Config.fce s.engine = none) : step s = .fault .noControllerRule := by
  rw [step_of_nil hev, controllerTurn, h]

/-- With nothing pending a run of the controller is the machine's. -/
theorem run_of_runController {n : Nat} {s : State} {e : Engine} (hev : s.events = [])
    (h : runController Config.fce n s.engine = some e) :
    Host.Core.run Sys2Proof.core n s = .next { s with engine := e } := by
  induction n generalizing s with
  | zero =>
    cases h
    exact run_zero s
  | succ n ih =>
    obtain ⟨e₁, hstep, hrest⟩ := Option.bind_eq_some_iff.mp h
    exact (run_succ (step_of_controllerStep hev hstep) n).trans (ih (s := { s with engine := e₁ }) hev hrest)

/-! ### The eighteen steps -/

/-- PHASE after n steps of KEYSET, ENCRYPT or DECRYPT (44_block_transform.md R221). -/
def phaseAfter (n : Nat) : Phase :=
  if n = 0 then .init else if n ≤ 16 then .round else if n = 17 then .final else .idle

/-- After INIT and m rounds of the sixteen the next step is a round. -/
theorem phaseAfter_add_one : ∀ m < 16, phaseAfter (m + 1) = .round := by decide

/-- After one round more the next step is a round, or FINAL when it was the last one. -/
theorem phaseAfter_add_two : ∀ m < 16, phaseAfter (m + 2) = if m + 1 = 16 then .final else .round := by decide

/-- KEYSET, ENCRYPT or DECRYPT has made n of its steps: RND counts the rounds, which INIT is not, until FINAL clears
it. -/
def Engine.HasMade (n : Nat) (e : Engine) : Prop :=
  e.op ∈ [opKeyset, opEncrypt, opDecrypt] ∧ e.phase = phaseAfter n ∧ (n ≤ 17 → e.rnd.toNat = n - 1)

/-- Before its 18 steps are made the command makes the next one. -/
theorem exists_controllerStep_of_hasMade (cfg : Config) {n : Nat} {e : Engine} (h : e.HasMade n) (hn : n < 18) :
    ∃ e', controllerStep cfg e = some e' ∧ e'.HasMade (n + 1) := by
  obtain ⟨ho, hp, hrnd⟩ := h
  have hrnd := hrnd (by omega)
  cases n with
  | zero =>
    obtain ⟨e', hstep, hop, hp', hrnd'⟩ := exists_controllerStep_init cfg ho hp
    exact ⟨e', hstep, hop ▸ ho, hp', fun _ => hrnd' ▸ hrnd⟩
  | succ m =>
    obtain hm | rfl : m < 16 ∨ m = 16 := by omega
    · obtain ⟨e', hstep, hop, hp', hrnd'⟩ :=
        exists_controllerStep_round cfg ho (hp.trans (phaseAfter_add_one m hm)) ⟨m, hm⟩ hrnd
      exact ⟨e', hstep, hop ▸ ho, hp'.trans (phaseAfter_add_two m hm).symm, fun _ => hrnd'⟩
    · obtain ⟨e', hstep, hop, hp'⟩ := exists_controllerStep_final cfg ho hp
      exact ⟨e', hstep, hop ▸ ho, hp', by omega⟩

/-- The command makes up to 18 steps (44_block_transform.md R221). -/
theorem exists_runController_hasMade (cfg : Config) {e : Engine} (h : e.HasMade 0) {n : Nat} (hn : n ≤ 18) :
    ∃ e', runController cfg n e = some e' ∧ e'.HasMade n := by
  induction n with
  | zero => exact ⟨e, rfl, h⟩
  | succ n ih =>
    obtain ⟨e₁, hrun, hmade⟩ := ih (by omega)
    obtain ⟨e₂, hstep, hmade⟩ := exists_controllerStep_of_hasMade cfg hmade (by omega)
    refine ⟨e₂, ?_, hmade⟩
    rw [runController_add, hrun, Option.bind_some, runController_one, hstep]

/-! ### Every event -/

/-- Every host access answers a next state (20_memory.md R64, 60_exceptions.md R251, R256). -/
theorem exists_hostAccess (a : Access) (s : State) : ∃ t, hostAccess a s = .next t := by
  cases a with
  | other dir width off => exact ⟨_, rfl⟩
  | read32 off =>
    cases hr : Reg.ofOffset off with
    | none => exact ⟨_, hostRead_unaligned ((Reg.ofOffset_eq_none off).mp hr) s⟩
    | some r => exact ⟨_, Reg.offset_of_ofOffset off r hr ▸ hostRead_offset r s⟩
  | write32 off v =>
    cases hr : Reg.ofOffset off with
    | none => exact ⟨_, hostWrite_unaligned ((Reg.ofOffset_eq_none off).mp hr) v s⟩
    | some r =>
      rw [hostAccess, ← Reg.offset_of_ofOffset off r hr]
      by_cases hcmd : r = .cmd
      · subst hcmd
        exact ⟨_, (hostWrite_cmd v s).trans (commandWrite_eq_next v _)⟩
      · exact ⟨_, hostWrite_offset hcmd v s⟩

/-- Under the invariant the controller's turn answers a next state (44_block_transform.md R211). -/
theorem exists_controllerTurn {s : State} (hi : s.Inv) : ∃ t, controllerTurn s = .next t := by
  obtain ⟨e, hstep⟩ := exists_controllerStep hi Config.fce
  exact ⟨_, controllerTurn_eq_next.mpr ⟨e, hstep, rfl⟩⟩

/-- Every read of `wait` answers a next state (30_encoding.md R97). -/
theorem exists_waitPoll (gaps : List Nat) (s : State) : ∃ t, waitPoll gaps s = .next t := by
  rw [waitPoll]
  split <;> exact ⟨_, rfl⟩

/-- Under the invariant every event answers a next state (44_block_transform.md R223). -/
theorem exists_handleEvent (ev : Event) {s : State} (hi : s.Inv) : ∃ t, handleEvent ev s = .next t := by
  cases ev with
  | access a => exact exists_hostAccess a s
  | controller => exact exists_controllerTurn hi
  | reset => exact ⟨_, rfl⟩
  | wait gaps => exact exists_waitPoll gaps s

/-- Under the invariant the machine steps, whatever is pending (44_block_transform.md R211, R223). -/
theorem exists_step {s : State} (hi : s.Inv) : ∃ t, step s = .next t := by
  cases hev : s.events with
  | nil => exact step_of_nil hev ▸ exists_controllerTurn hi
  | cons ev rest => exact step_of_cons hev ▸ exists_handleEvent ev (s := { s with events := rest }) hi

end Sys2Proof.Machine
end

section
/-! SUPPORT. The output of PERM_IP and PERM_FP, and ENCRYPT and DECRYPT from their CMD write to their last step
(44_block_transform.md R212 to R220). -/

namespace Sys2Proof.Machine

open Sys2Proof

/-! ### PERM_IP and PERM_FP -/

/-- What the one step of PERM_IP or PERM_FP makes of the block (41_bit_permutation.md R127, R128). -/
def permOutput (cfg : Config) (op : Byte) (x : Block) : Block :=
  if op = opPermIp then initialPermutation cfg x else finalPermutation cfg x

/-- The PERM row writes IP or FP of the latched block to DOUT (41_bit_permutation.md R127, R128). -/
theorem dout_of_controllerStep_perm {cfg : Config} {e f : Engine} (hp : e.phase = .perm)
    (ho : e.op ∈ [opPermIp, opPermFp]) (h : controllerStep cfg e = some f) :
    f.dout0 = lowLanes (store64 cfg.byteOrder (permOutput cfg e.op e.x)) ∧
      f.dout1 = highLanes (store64 cfg.byteOrder (permOutput cfg e.op e.x)) := by
  obtain ho | ho := List.mem_pair.mp ho
  · cases (controllerStep_permIp hp ho).symm.trans h
    simp [permOutput, permIpStep, ho]
  · cases (controllerStep_permFp hp ho).symm.trans h
    have hne : opPermFp ≠ opPermIp := by decide
    simp [permOutput, permFpStep, ho, hne]

/-! ### The rows of ENCRYPT and DECRYPT -/

/-- The opcodes of ENCRYPT and DECRYPT each select a key order (44_block_transform.md R214). -/
theorem exists_opcode_of_mem {op : Byte} (h : op ∈ [opEncrypt, opDecrypt]) : ∃ dir : KeyOrder, op = dir.opcode :=
  (opKeyset_or_opcode (List.mem_cons_of_mem _ h)).resolve_left fun ho => absurd (ho ▸ h) (by decide)

/-! ### The eighteen steps -/

/-- The engine after the INIT step and n rounds, from the engine e in which the block was latched. -/
def cipherAfterRounds (cfg : Config) (dir : KeyOrder) (e : Engine) (n : Nat) : Engine :=
  { cipherInit cfg e with
    l := (roundHalves cfg dir e.rk e.x n).1, r := (roundHalves cfg dir e.rk e.x n).2
    rnd := BitVec.ofNat 5 n, phase := if n = 16 then .final else .round }

/-- The INIT step comes before all rounds. -/
theorem cipherInit_eq_cipherAfterRounds {cfg : Config} {e : Engine} (hrnd : e.rnd = 0#5) (dir : KeyOrder) :
    cipherInit cfg e = cipherAfterRounds cfg dir e 0 := by
  simp [cipherAfterRounds, cipherInit, roundHalves, hrnd]

/-- The ROUND step with RND = r takes the engine after r rounds to the one after r + 1. -/
theorem cipherRound_cipherAfterRounds (cfg : Config) (dir : KeyOrder) (e : Engine) (r : Fin 16) :
    cipherRound cfg dir r (cipherAfterRounds cfg dir e r.val) = cipherAfterRounds cfg dir e (r.val + 1) := by
  have hr : Fin.ofNat 16 r.val = r := Fin.ofNat_val_eq_self r
  rw [cipherAfterRounds, cipherAfterRounds, roundHalves, hr]
  rfl

/-- While a round is left the controller takes it. -/
theorem controllerStep_cipherAfterRounds {cfg : Config} {dir : KeyOrder} {e : Engine} (ho : e.op = dir.opcode) {n : Nat}
    (hn : n < 16) :
    controllerStep cfg (cipherAfterRounds cfg dir e n) = some (cipherAfterRounds cfg dir e (n + 1)) := by
  have hphase : (cipherAfterRounds cfg dir e n).phase = .round := if_neg (by omega)
  have hrnd : (cipherAfterRounds cfg dir e n).rnd.toNat = n := by
    simp only [cipherAfterRounds, BitVec.toNat_ofNat]
    omega
  rw [controllerStep_round_cipher hphase ho ⟨n, hn⟩ hrnd, cipherRound_cipherAfterRounds]

/-- The end of a command whose transform of the latched block is w (44_block_transform.md R217). -/
def cipherFinished (cfg : Config) (w : Block) (e : Engine) : Engine :=
  { e with
    x := 0#64, l := 0#32, r := 0#32, rnd := 0#5, phase := .idle
    status := { e.status with busy := false, done := true }
    dout0 := lowLanes (store64 cfg.byteOrder w), dout1 := highLanes (store64 cfg.byteOrder w) }

/-- The FINAL step leaves BT of the latched block in DOUT (44_block_transform.md R217, R220). -/
theorem cipherFinal_cipherAfterRounds (cfg : Config) (dir : KeyOrder) (e : Engine) :
    cipherFinal cfg (cipherAfterRounds cfg dir e 16) = cipherFinished cfg (blockTransform cfg dir e.rk e.x) e := rfl

/-- The 18 steps of ENCRYPT and DECRYPT are INIT, sixteen rounds and FINAL, and compute BT (44_block_transform.md
R220). -/
theorem runController_cipher {cfg : Config} {dir : KeyOrder} {e : Engine} (hp : e.phase = .init)
    (ho : e.op = dir.opcode) (hrnd : e.rnd = 0#5) :
    runController cfg 18 e = some (cipherFinished cfg (blockTransform cfg dir e.rk e.x) e) := by
  have hinit : controllerStep cfg e = some (cipherAfterRounds cfg dir e 0) := by
    rw [controllerStep_init_cipher hp ho, cipherInit_eq_cipherAfterRounds hrnd]
  have hrounds : runController cfg 16 (cipherAfterRounds cfg dir e 0) = some (cipherAfterRounds cfg dir e 16) :=
    runController_of_steps fun n hn => controllerStep_cipherAfterRounds ho hn
  have hfinal : controllerStep cfg (cipherAfterRounds cfg dir e 16) =
      some (cipherFinal cfg (cipherAfterRounds cfg dir e 16)) := controllerStep_final_cipher rfl ho
  rw [runController_succ hinit, runController_add cfg 16 1, hrounds, Option.bind_some, runController_one, hfinal,
    cipherFinal_cipherAfterRounds]

/-- STATUS of a finished block command with a key loaded, as a read returns it: DONE and KEY_VALID (10_state.md R34). -/
theorem status_word_finished :
    ({ busy := false, done := true, keyValid := true, overrun := false, err := 0#4 } : Status).word = 6#32 := by
  decide

/-! ### The commands of this hardware -/

/-- The canonical command of a key order (30_encoding.md R92). -/
def KeyOrder.command : KeyOrder → Instr
  | .enc => .encrypt 8#8 8#8
  | .dec => .decrypt 8#8 8#8

/-- The engine after the command of a key order was accepted with a key loaded (44_block_transform.md R212). -/
def cipherAccepted (dir : KeyOrder) (e : Engine) : Engine :=
  { e with
    cmd := encode dir.command
    status := { busy := true, done := false, keyValid := true, overrun := false, err := 0#4 }
    x := e.din1 ++ e.din0, din0 := 0#32, din1 := 0#32, op := dir.opcode, rnd := 0#5, phase := .init }

/-- With both lengths 8 and a key loaded the checks pass, and the command starts with its block latched
(60_exceptions.md R251, R253). -/
theorem exec_command {s : State} (hb : s.engine.status.busy = false) (hk : s.engine.status.keyValid = true)
    (dir : KeyOrder) : exec dir.command s = .next { s with engine := cipherAccepted dir s.engine } := by
  have hcheck : checkCipher 8#8 8#8 s.engine.status.keyValid = none := (checkCipher_eq_none _ _ _).mpr ⟨rfl, rfl, hk⟩
  have hissue : issueOf Config.fce dir.command s.engine =
      issueCommand (encode dir.command) none (latchBlock Config.fce dir.opcode .init) s.engine := by
    rw [← hcheck]
    cases dir <;> rfl
  rw [exec_latchBlock_fce hb hissue, hk]
  rfl

/-- The output of this hardware goes to DOUT half by half (20_memory.md R66). -/
theorem cipherFinished_fce (w : Block) (e : Engine) :
    cipherFinished Config.fce w e = { e with
      x := 0#64, l := 0#32, r := 0#32, rnd := 0#5, phase := .idle
      status := { e.status with busy := false, done := true }
      dout0 := w.extractLsb' 0 32, dout1 := w.extractLsb' 32 32 } := by
  obtain ⟨hlow, hhigh⟩ := lanes_store64_of_le fce_byteOrder w
  rw [cipherFinished, hlow, hhigh]

/-- The engine after the command of a key order was accepted and made its 18 steps (44_block_transform.md R218,
R219). -/
theorem runController_cipherAccepted (dir : KeyOrder) (e : Engine) :
    runController Config.fce 18 (cipherAccepted dir e) = some (cipherFinished Config.fce
      (blockTransform Config.fce dir e.rk (e.din1 ++ e.din0)) (cipherAccepted dir e)) :=
  runController_cipher rfl rfl rfl

end Sys2Proof.Machine
end

section
/-! SUPPORT. The statements on the block transform (44_block_transform.md), settled. -/

open Sys2Proof Sys2Proof.Machine

/-- Settles O20: with both lengths 8 and a key loaded the checks pass, and the 18 steps compute BT in the order ENC. -/
theorem encryptCompletes : Obligations.EncryptCompletes := by
  refine fun s hb hk => ⟨exec_command hb hk .enc, ?_⟩
  exact (runController_cipherAccepted .enc s.engine).trans (congrArg some (cipherFinished_fce _ _))

/-- Settles O21: with both lengths 8 and a key loaded the checks pass, and the 18 steps compute BT in the order DEC. -/
theorem decryptCompletes : Obligations.DecryptCompletes := by
  refine fun s hb hk => ⟨exec_command hb hk .dec, ?_⟩
  exact (runController_cipherAccepted .dec s.engine).trans (congrArg some (cipherFinished_fce _ _))

/-- Settles O24: the write runs ENCRYPT, and with nothing pending the 18 steps are the machine's. -/
theorem hostEncryptsOneBlock : Obligations.HostEncryptsOneBlock := by
  intro s hb hk hev
  have hwrite : step s = .next { s with engine := cipherAccepted .enc s.engine, events := [], reply := .written } := by
    rw [step_of_cons hev]
    exact exec_command (s := { s with events := [], reply := .written }) hb hk .enc
  have hrun := (run_succ hwrite 18).trans (run_of_runController rfl (runController_cipherAccepted .enc s.engine))
  rw [cipherFinished_fce] at hrun
  exact ⟨_, hrun, BitVec.extractLsb'_append_extractLsb', status_word_finished, rfl, rfl, rfl, rfl, rfl, rfl, rfl, rfl⟩

/-- Settles O26: the ROUND row is the round, with the round key of its key order. -/
theorem cipherRoundStep : Obligations.CipherRoundStep := by
  refine fun cfg e r hp hr => ⟨fun ho => controllerStep_round_cipher (dir := .enc) hp ho r hr, fun ho => ?_⟩
  rw [← roundKey_dec]
  exact controllerStep_round_cipher (dir := .dec) hp ho r hr

/-- Settles O29: a row gives the next PHASE, and the inversion of a controller step finds no other row. -/
theorem controllerTable : Obligations.ControllerTable := by
  refine fun s hev => ⟨fun hp => step_of_controllerStep hev (controllerStep_idle hp), fun hp ho => ?_,
    fun hp ho hr => ?_, fun hp ho => ?_, fun hp ho => ?_,
    fun h => step_of_controllerStep_eq_none hev (controllerStep_eq_none h)⟩
  · obtain ⟨e, hstep, -, hp', -⟩ := exists_controllerStep_init Config.fce ho hp
    exact ⟨_, step_of_controllerStep hev hstep, hp'⟩
  · obtain ⟨e, hstep, -, hp', -⟩ :=
      exists_controllerStep_round Config.fce ho hp ⟨s.engine.rnd.toNat, Nat.lt_succ_of_le hr⟩ rfl
    have hlast : s.engine.rnd.toNat + 1 < 16 ↔ ¬ s.engine.rnd.toNat + 1 = 16 := by omega
    refine ⟨_, step_of_controllerStep hev hstep, ?_⟩
    simp only [hlast, ite_not]
    exact hp'
  · obtain ⟨e, hstep, -, hp'⟩ := exists_controllerStep_final Config.fce ho hp
    exact ⟨_, step_of_controllerStep hev hstep, hp'⟩
  · obtain ⟨e, hstep, hp'⟩ := exists_controllerStep_perm Config.fce hp ho
    exact ⟨_, step_of_controllerStep hev hstep, hp'⟩

/-- Settles O30: each of the 18 steps is that of its row, and PERM has one. -/
theorem stepCounts : Obligations.StepCounts := by
  refine fun cfg e hrnd => ⟨fun hp ho n hn => ?_, fun hp ho => ?_⟩
  · have hstart : e.HasMade 0 := ⟨ho, hp, fun _ => by simp [hrnd]⟩
    obtain ⟨e', hrun, -, hp', -⟩ := exists_runController_hasMade cfg hstart hn
    exact ⟨e', hrun, hp'⟩
  · rw [runController_one]
    exact exists_controllerStep_perm cfg hp ho

/-- Settles O31: INIT, sixteen rounds of the halves, and FINAL. -/
theorem cipherStepsComputeBlockTransform : Obligations.CipherStepsComputeBlockTransform :=
  fun _ _ _ => runController_cipher

/-- Settles O33: the output is BT of X under RK, or IP or FP of X. -/
theorem outputDependsOnBlockAndKeysAlone : Obligations.OutputDependsOnBlockAndKeysAlone := by
  refine fun cfg e e' f f' hphase hop hx => ⟨fun hp ho hrnd hrnd' hrk hf hf' => ?_, fun hp ho hf hf' => ?_⟩
  · obtain ⟨dir, ho⟩ := exists_opcode_of_mem ho
    rw [runController_cipher hp ho hrnd] at hf
    rw [runController_cipher (hphase.trans hp) (hop.trans ho) hrnd', hrk, hx] at hf'
    cases hf
    cases hf'
    exact ⟨rfl, rfl⟩
  · rw [runController_one] at hf hf'
    obtain ⟨h0, h1⟩ := dout_of_controllerStep_perm hp ho hf
    obtain ⟨h0', h1'⟩ := dout_of_controllerStep_perm (hphase.trans hp) (hop.symm ▸ ho) hf'
    rw [h0, h1, h0', h1', hop, hx]
    exact ⟨rfl, rfl⟩

/-- Settles O44: DEC is the other key order of ENC and the other way round, and each undoes the other's rounds. -/
theorem decryptUndoesEncrypt : Obligations.DecryptUndoesEncrypt := by
  have hundo (cfg : Config) (h : ∀ y : Block, initialPermutation cfg (finalPermutation cfg y) = swap32 y)
      (rk : KeyFile) (w : Block) := And.intro (blockTransform_other h .enc rk w) (blockTransform_other h .dec rk w)
  exact ⟨hundo, initialPermutation_finalPermutation_fce, hundo _ initialPermutation_finalPermutation_fce⟩

/-- Settles O45: the round keys of the complement of a key are the complements of its round keys. -/
theorem complementProperty : Obligations.ComplementProperty := by
  have hpc1 : tableWellFormed 64 56 Config.fce.tables.pc1 = true := by decide
  have hpc2 : tableWellFormed 56 48 Config.fce.tables.pc2 = true := by decide
  have he : tableWellFormed 32 48 Config.fce.tables.e = true := by decide
  exact fun k w => blockTransform_not ipTable_wellFormed fpEngineTable_wellFormed he
    (fun r => by simp [roundKey, scheduledKey_not hpc1 hpc2]) w

/-- Settles O46: the two key orders then give every round the same key, and decryption undoes encryption. -/
theorem palindromicKeysAreInvolutions : Obligations.PalindromicKeysAreInvolutions := by
  intro cfg rk hrk
  have hsame (w : Block) : blockTransform cfg .enc rk w = blockTransform cfg .dec rk w :=
    blockTransform_congr cfg (roundKey_enc_eq_dec hrk) w
  refine ⟨hsame, fun hperm w => ?_⟩
  rw [hsame (blockTransform cfg .enc rk w)]
  exact blockTransform_other hperm .enc rk w

/-- Settles O50: the controller has a row, and every other event answers a next state. -/
theorem noStepStopsUnderTheInvariant : Obligations.NoStepStopsUnderTheInvariant := fun _ => exists_step

/-- Settles O25: the INIT row of ENCRYPT and DECRYPT splits IP of the latched block. -/
theorem cipherInitStep : Obligations.CipherInitStep := by
  intro cfg e hp ho
  obtain ⟨dir, ho⟩ := exists_opcode_of_mem (List.mem_pair.mpr ho)
  exact controllerStep_init_cipher hp ho

/-- Settles O27: the FINAL row of ENCRYPT and DECRYPT outputs FP of the joined halves. -/
theorem cipherFinalStep : Obligations.CipherFinalStep := by
  intro cfg e hp ho
  obtain ⟨dir, ho⟩ := exists_opcode_of_mem (List.mem_pair.mpr ho)
  exact controllerStep_final_cipher hp ho

end

section
/-! SUPPORT. The issue of a command by its word alone (60_exceptions.md R251): its checks are `validate` of the word
(R253), and its opcode selects the latch of its operands. -/

namespace Sys2Proof.Machine

open Sys2Proof

/-! ### The checks and the latch of a command -/

/-- The checks of a command on its length fields and on KEY_VALID, in order (60_exceptions.md R253). -/
def instrCheck (cfg : Config) (keyValid : Bool) : Instr → Option ErrorCode
  | .keyset n _ => checkKeyLength cfg n
  | .encrypt n m => checkCipher n m keyValid
  | .decrypt n m => checkCipher n m keyValid
  | .permIp n m => checkBlockLengths n m
  | .permFp n m => checkBlockLengths n m

/-- The latch of the operands of the command with this opcode (44_block_transform.md R212, 42_round_key_schedule.md
R158). -/
def opcodeLatch (cfg : Config) (op : Byte) : Engine → Engine :=
  if op = opKeyset then latchKey cfg
  else latchBlock cfg op (if op = opEncrypt ∨ op = opDecrypt then .init else .perm)

/-- KEYSET latches the key. -/
theorem opcodeLatch_keyset {op : Byte} (h : op = opKeyset) (cfg : Config) : opcodeLatch cfg op = latchKey cfg :=
  if_pos h

/-- Every other command latches the block. -/
theorem opcodeLatch_block {op : Byte} (h : op ≠ opKeyset) (cfg : Config) :
    opcodeLatch cfg op = latchBlock cfg op (if op = opEncrypt ∨ op = opDecrypt then .init else .perm) :=
  if_neg h

/-- The latch of any command leaves CMD and DOUT. -/
theorem opcodeLatch_cmd_dout (cfg : Config) (op : Byte) (e : Engine) :
    (opcodeLatch cfg op e).cmd = e.cmd ∧ (opcodeLatch cfg op e).dout0 = e.dout0 ∧
      (opcodeLatch cfg op e).dout1 = e.dout1 := by
  unfold opcodeLatch
  split <;> exact ⟨rfl, rfl, rfl⟩

/-- The latch of any command leaves STATUS, but that KEYSET clears KEY_VALID (42_round_key_schedule.md R158). -/
theorem opcodeLatch_status (cfg : Config) (op : Byte) (e : Engine) :
    (opcodeLatch cfg op e).status = if op = opKeyset then e.status.setKeyValid false else e.status := by
  unfold opcodeLatch
  split <;> rfl

/-- The issue of an instruction is the write of its word, with its checks and its opcode's latch. -/
theorem issueOf_eq_issueCommand (cfg : Config) (i : Instr) (e : Engine) :
    issueOf cfg i e =
      issueCommand (encode i) (instrCheck cfg e.status.keyValid i) (opcodeLatch cfg i.opcode) e := by
  cases i <;> rfl

/-! ### Validation -/

/-- The checks of ENCRYPT and DECRYPT one after the other (60_exceptions.md R253 checks 3 to 5). -/
theorem checkCipher_eq (n m : Byte) (keyValid : Bool) :
    checkCipher n m keyValid =
      if n ≠ 8#8 then some .invalidArgumentInput
      else if m ≠ 8#8 then some .invalidArgumentOutput
      else checkKeyLoaded keyValid := by
  unfold checkCipher checkBlockLengths
  split_ifs <;> rfl

/-- The fields of a command's word are the command's (30_encoding.md R90). -/
theorem encode_fields (i : Instr) :
    opcodeField (encode i) = i.opcode ∧ rsvdField (encode i) = 0x00#8 ∧ inLenField (encode i) = i.inLen ∧
      outLenField (encode i) = i.outLen :=
  Laws.EncodedWord.commandWord_fields i.opcode i.inLen i.outLen

/-- Validation of a command's word runs the checks of the command (60_exceptions.md R253). -/
theorem validate_encode (cfg : Config) (keyValid : Bool) (i : Instr) :
    validate cfg (encode i) keyValid = instrCheck cfg keyValid i := by
  obtain ⟨hop, hrsvd, hin, hout⟩ := encode_fields i
  rw [validate, hop, hrsvd, hin, hout]
  cases i with
  | keyset n m => simp [Instr.opcode, opKeyset, Instr.inLen, instrCheck, checkKeyLength]
  | encrypt n m | decrypt n m =>
    cases keyValid <;>
      simp [Instr.opcode, opEncrypt, opDecrypt, Instr.inLen, Instr.outLen, instrCheck, checkCipher_eq, checkKeyLoaded]
  | permIp n m | permFp n m =>
    simp [Instr.opcode, opPermIp, opPermFp, Instr.inLen, Instr.outLen, instrCheck, checkBlockLengths]

/-- A word that is no command's is illegal (60_exceptions.md R253 check 1). -/
theorem validate_of_decode_eq_none {v : Word} (h : decode v = none) (cfg : Config) (keyValid : Bool) :
    validate cfg v keyValid = some .illegalCommand := by
  have hopcode := decode_map_opcode v
  rw [h, Option.map_none] at hopcode
  refine if_pos ?_
  by_contra hdefined
  push Not at hdefined
  rw [if_pos hdefined] at hopcode
  cases hopcode

/-- Every CMD write, of a defined or an illegal word, is the issue of its word (60_exceptions.md R251). -/
theorem commandEngine_eq_issueCommand (cfg : Config) (v : Word) (e : Engine) :
    commandEngine cfg v e =
      issueCommand v (validate cfg v e.status.keyValid) (opcodeLatch cfg (opcodeField v)) e := by
  unfold commandEngine
  cases hd : decode v with
  | none =>
    rw [validate_of_decode_eq_none hd]
    rfl
  | some i =>
    obtain rfl := encode_of_decode_eq_some hd
    obtain ⟨hop, -⟩ := encode_fields i
    rw [validate_encode, hop]
    exact issueOf_eq_issueCommand cfg i e

/-- A write to CMD in the machine: the issue of its word, acknowledged to the host (60_exceptions.md R251). -/
theorem step_cmdWrite {s : State} {v : Word} {rest : List Event}
    (hev : s.events = .access (.write32 0x00 v) :: rest) :
    step s = .next { engine := commandEngine Config.fce v s.engine, events := rest, reply := .written } := by
  rw [step_of_cons hev]
  exact (hostWrite_cmd v _).trans (commandWrite_eq_next v _)

/-! ### The result code -/

/-- The code in ERR for the result of a validation: that of the failing check, or 0 (60_exceptions.md R250, R251). -/
def resultCode : Option ErrorCode → BitVec 4
  | some c => c.code
  | none => 0#4

/-- No error has code 0 (60_exceptions.md R250). -/
theorem isNone_iff_resultCode_eq_zero (check : Option ErrorCode) : check.isNone = true ↔ resultCode check = 0#4 := by
  cases check with
  | some c =>
    obtain ⟨hcode, -⟩ := c.code_range
    simp [resultCode, hcode]
  | none => simp [resultCode]

/-- ERR and BUSY after a word has been accepted (60_exceptions.md R251, R252). -/
theorem issueCommand_err_busy {e : Engine} (hb : e.status.busy = false) (v : Word) (check : Option ErrorCode)
    (cfg : Config) (op : Byte) :
    (issueCommand v check (opcodeLatch cfg op) e).status.err = resultCode check ∧
      (issueCommand v check (opcodeLatch cfg op) e).status.busy = check.isNone := by
  cases check with
  | some c =>
    rw [issueCommand_rejected hb]
    exact ⟨rfl, hb⟩
  | none =>
    rw [issueCommand_started hb, opcodeLatch_status]
    split <;> exact ⟨rfl, rfl⟩

/-- The fields of a command word as numbers (30_encoding.md R90, R91). -/
theorem fields_toNat (v : Word) :
    (opcodeField v).toNat = v.toNat % 256 ∧ (rsvdField v).toNat = v.toNat / 256 % 256 ∧
      (inLenField v).toNat = v.toNat / 65536 % 256 ∧ (outLenField v).toNat = v.toNat / 16777216 := by
  have hv := v.isLt
  simp only [opcodeField, rsvdField, inLenField, outLenField, toNat_field]
  omega

/-- The code of the first failing check of a word, with its fields read as numbers (60_exceptions.md R253). -/
theorem resultCode_validate_toNat (v : Word) (keyValid : Bool) :
    (resultCode (validate Config.fce v keyValid)).toNat =
      if (rsvdField v).toNat ≠ 0 ∨ (opcodeField v).toNat ∉ [1, 2, 3, 4, 5] then 5
      else if (opcodeField v).toNat = 1 ∧ (inLenField v).toNat ≠ 8 then 3
      else if (opcodeField v).toNat ∈ [2, 3, 4, 5] ∧ (inLenField v).toNat ≠ 8 then 1
      else if (opcodeField v).toNat ∈ [2, 3, 4, 5] ∧ (outLenField v).toNat ≠ 8 then 2
      else if (opcodeField v).toNat ∈ [2, 3] ∧ keyValid = false then 4
      else 0 := by
  simp only [validate, fce_keyBytes, List.mem_cons, List.not_mem_nil, or_false, ne_eq, ← BitVec.toNat_inj,
    BitVec.toNat_ofNat, Nat.reducePow, Nat.reduceMod]
  split_ifs <;> rfl

end Sys2Proof.Machine
end

section
/-! SUPPORT. A command that is rejected (60_exceptions.md R252) or dropped while BUSY (R255), and what issuing an
instruction can leave of the engine. -/

namespace Sys2Proof.Machine

open Sys2Proof

/-! ### Rejection -/

/-- A command that is accepted and fails its checks is rejected, and touches the engine alone. -/
theorem exec_rejected {i : Instr} {s : State} {c : ErrorCode} (hb : s.engine.status.busy = false)
    (hc : instrCheck Config.fce s.engine.status.keyValid i = some c) :
    exec i s = .next { s with engine := { s.engine with
      cmd := encode i, status := s.engine.status.accepted.rejected c } } := by
  rw [exec_eq_next, issueOf_eq_issueCommand, hc, issueCommand_rejected hb]

/-- An illegal word that is accepted is rejected, and touches the engine alone (60_exceptions.md R253 check 1). -/
theorem commandWrite_illegal {v : Word} {s : State} (hb : s.engine.status.busy = false) (hd : decode v = none) :
    commandWrite v s = .next { s with engine := { s.engine with
      cmd := v, status := s.engine.status.accepted.rejected .illegalCommand } } := by
  rw [commandWrite_eq_next, commandEngine_eq_issueCommand, validate_of_decode_eq_none hd, issueCommand_rejected hb]

/-- IN_LEN other than 8 is a block command's first failing check (60_exceptions.md R253 check 3). -/
theorem checkBlockLengths_input {n : Byte} (hn : n ≠ 8#8) (m : Byte) :
    checkBlockLengths n m = some .invalidArgumentInput := if_pos hn

/-- OUT_LEN other than 8 fails after an IN_LEN of 8 (60_exceptions.md R253 check 4). -/
theorem checkBlockLengths_output {n m : Byte} (hn : n = 8#8) (hm : m ≠ 8#8) :
    checkBlockLengths n m = some .invalidArgumentOutput := by
  simp [checkBlockLengths, hn, hm]

/-- The length checks of a block command come before its key check (60_exceptions.md R253). -/
theorem instrCheck_of_checkBlockLengths {n m : Byte} {i : Instr} {c : ErrorCode} (hc : checkBlockLengths n m = some c)
    (hi : i ∈ [Instr.encrypt n m, .decrypt n m, .permIp n m, .permFp n m]) (cfg : Config) (keyValid : Bool) :
    instrCheck cfg keyValid i = some c := by
  have hcipher : checkCipher n m keyValid = some c := by rw [checkCipher, hc]
  simp only [List.mem_cons, List.not_mem_nil, or_false] at hi
  obtain rfl | rfl | rfl | rfl := hi
  · exact hcipher
  · exact hcipher
  · exact hc
  · exact hc

/-! ### A dropped write and the running command -/

/-- The engine with OVERRUN set (10_state.md R38). -/
def setOverrun (e : Engine) : Engine := { e with status := e.status.dropped }

/-- A CMD write while BUSY sets OVERRUN alone. -/
theorem commandEngine_busy {e : Engine} (hb : e.status.busy = true) (cfg : Config) (v : Word) :
    commandEngine cfg v e = setOverrun e := by
  rw [commandEngine_eq_issueCommand, issueCommand_busy hb, setOverrun]

/-- A command that is issued while BUSY sets OVERRUN alone. -/
theorem exec_busy {s : State} (hb : s.engine.status.busy = true) (i : Instr) :
    exec i s = .next { s with engine := setOverrun s.engine } := by
  rw [exec_eq_next, issueOf_eq_issueCommand, issueCommand_busy hb, setOverrun]

/-- No controller step reads or writes OVERRUN: PHASE, OP and RND choose the row of 44_block_transform.md R211. -/
theorem controllerStep_setOverrun (cfg : Config) (e : Engine) :
    controllerStep cfg (setOverrun e) = (controllerStep cfg e).map setOverrun := by
  have hphase : (setOverrun e).phase = e.phase := rfl
  have hop : (setOverrun e).op = e.op := rfl
  have hrnd : (setOverrun e).rnd = e.rnd := rfl
  rw [controllerStep, controllerStep, hphase]
  cases e.phase with
  | idle => rfl
  | init =>
    simp only [stepInit, hop, apply_ite (Option.map setOverrun), Option.map_map]
    rfl
  | round =>
    simp only [stepRound, hop, hrnd]
    split
    · simp only [apply_ite (Option.map setOverrun), Option.map_map]
      rfl
    · rfl
  | final =>
    simp only [stepFinal, hop, apply_ite (Option.map setOverrun), Option.map_map]
    rfl
  | perm =>
    simp only [stepPerm, hop, apply_ite (Option.map setOverrun)]
    rfl

/-- A run of the controller is the same with OVERRUN set, but for that bit. -/
theorem runController_setOverrun (cfg : Config) (n : Nat) (e : Engine) :
    runController cfg n (setOverrun e) = (runController cfg n e).map setOverrun := by
  induction n generalizing e with
  | zero => rfl
  | succ n ih =>
    rw [runController, runController, controllerStep_setOverrun]
    cases controllerStep cfg e with
    | none => rfl
    | some e' => exact ih e'

/-! ### What issuing an instruction can leave -/

/-- KEYSET passes its check on this hardware with an IN_LEN of 8 alone (60_exceptions.md R253 check 2). -/
theorem eq_keyset_of_instrCheck {i : Instr} {keyValid : Bool} (hop : i.opcode = opKeyset)
    (hc : instrCheck Config.fce keyValid i = none) : ∃ m, i = .keyset 8#8 m := by
  cases i with
  | keyset n m =>
    have hn : n.toNat = 8 := (checkKeyLength_eq_none Config.fce n).mp hc
    exact ⟨m, congrArg (Instr.keyset · m) (BitVec.eq_of_toNat_eq hn)⟩
  | encrypt | decrypt | permIp | permFp =>
    exact absurd hop (by simp [Instr.opcode, opKeyset, opEncrypt, opDecrypt, opPermIp, opPermFp])

/-- The four things the issue of an instruction can do: it is dropped, rejected, or starts KEYSET of 8 bytes, or a block
command. -/
theorem issueOf_cases (i : Instr) (e : Engine) :
    (e.status.busy = true ∧ issueOf Config.fce i e = setOverrun e) ∨
    (e.status.busy = false ∧ ∃ c,
      issueOf Config.fce i e = { e with cmd := encode i, status := e.status.accepted.rejected c }) ∨
    (e.status.busy = false ∧ (∃ m, i = .keyset 8#8 m) ∧
      issueOf Config.fce i e =
        latchKey Config.fce { e with cmd := encode i, status := e.status.accepted.started }) ∨
    (e.status.busy = false ∧ (∀ n m, i ≠ .keyset n m) ∧ ∃ op phase,
      issueOf Config.fce i e =
        latchBlock Config.fce op phase { e with cmd := encode i, status := e.status.accepted.started }) := by
  rw [issueOf_eq_issueCommand]
  obtain ⟨hb, he⟩ | ⟨hb, c, -, he⟩ | ⟨hb, hc, he⟩ := issueCommand_cases (encode i)
    (instrCheck Config.fce e.status.keyValid i) (opcodeLatch Config.fce i.opcode) e
  · exact .inl ⟨hb, he⟩
  · exact .inr (.inl ⟨hb, c, he⟩)
  · by_cases hop : i.opcode = opKeyset
    · rw [opcodeLatch_keyset hop] at he ⊢
      exact .inr (.inr (.inl ⟨hb, eq_keyset_of_instrCheck hop hc, he⟩))
    · rw [opcodeLatch_block hop] at he ⊢
      exact .inr (.inr (.inr ⟨hb, fun n m hi => hop (hi ▸ rfl), _, _, he⟩))

end Sys2Proof.Machine
end

section
/-! SUPPORT. One host access by what it does, whatever the state (20_memory.md R64, R69): what it leaves of a running
command (70_reset_and_hazards.md R286), and what it shows of the engine (60_exceptions.md R259). -/

namespace Sys2Proof.Machine

open Sys2Proof

/-- What a host access does depends on the access alone: a bus error, the read of a register, the write of a word to
CMD, or the write of another register. -/
theorem hostAccess_cases (a : Access) :
    (∀ s, hostAccess a s = busError s) ∨
    (∃ r, ∀ s, hostAccess a s = .next { s with reply := .data (readReg r s.engine) }) ∨
    (∃ v, ∀ s, hostAccess a s =
      .next { s with engine := commandEngine Config.fce v s.engine, reply := .written }) ∨
    (∃ r v, ∀ s, hostAccess a s = .next { s with engine := writeReg r v s.engine, reply := .written }) := by
  cases a with
  | other dir width off => exact .inl fun _ => rfl
  | read32 off =>
    cases hr : Reg.ofOffset off with
    | none => exact .inl (hostRead_unaligned ((Reg.ofOffset_eq_none off).mp hr))
    | some r => exact .inr (.inl ⟨r, Reg.offset_of_ofOffset off r hr ▸ hostRead_offset r⟩)
  | write32 off v =>
    cases hr : Reg.ofOffset off with
    | none => exact .inl (hostWrite_unaligned ((Reg.ofOffset_eq_none off).mp hr) v)
    | some r =>
      obtain rfl := Reg.offset_of_ofOffset off r hr
      by_cases hcmd : r = .cmd
      · subst hcmd
        exact .inr (.inr (.inl ⟨v, fun s => (hostWrite_cmd v s).trans (commandWrite_eq_next v _)⟩))
      · exact .inr (.inr (.inr ⟨r, v, hostWrite_offset hcmd v⟩))

/-! ### The running command -/

/-- An engine runs the command it runs. -/
theorem sameCommand_refl (e : Engine) : Engine.sameCommand e e :=
  ⟨rfl, rfl, rfl, rfl, rfl, rfl, rfl, rfl, rfl, rfl, rfl⟩

/-- A register write leaves everything a running command computes with and has written. -/
theorem sameCommand_writeReg (r : Reg) (v : Word) (e : Engine) : Engine.sameCommand e (writeReg r v e) := by
  cases r <;> exact sameCommand_refl e

/-! ### What a master can see -/

/-- Engines that look alike to reads answer each read alike (20_memory.md R69). -/
theorem readReg_congr {e e' : Engine} (h : Engine.sameReads e e') (r : Reg) : readReg r e = readReg r e' := by
  obtain ⟨hcmd, hst, hdout0, hdout1⟩ := h
  cases r with
  | cmd => exact hcmd
  | status => exact congrArg Status.word hst
  | dout0 => exact hdout0
  | dout1 => exact hdout1
  | din0 | din1 | key0 | key1 => rfl

/-- Engines that look alike to reads look alike after a register write (20_memory.md R69). -/
theorem sameReads_writeReg {e e' : Engine} (h : Engine.sameReads e e') (r : Reg) (v : Word) :
    Engine.sameReads (writeReg r v e) (writeReg r v e') := by
  cases r <;> exact h

/-- Engines that look alike to reads look alike after the issue of a command with the same result of its checks. -/
theorem sameReads_issueCommand {e e' : Engine} (h : Engine.sameReads e e') (v : Word) (check : Option ErrorCode)
    (cfg : Config) (op : Byte) :
    Engine.sameReads (issueCommand v check (opcodeLatch cfg op) e) (issueCommand v check (opcodeLatch cfg op) e') := by
  obtain ⟨hcmd, hst, hdout0, hdout1⟩ := h
  cases hb : e.status.busy with
  | true =>
    rw [issueCommand_busy hb, issueCommand_busy (hst ▸ hb), hst]
    exact ⟨hcmd, rfl, hdout0, hdout1⟩
  | false =>
    cases check with
    | some c =>
      rw [issueCommand_rejected hb, issueCommand_rejected (hst ▸ hb), hst]
      exact ⟨rfl, rfl, hdout0, hdout1⟩
    | none =>
      rw [issueCommand_started hb, issueCommand_started (hst ▸ hb)]
      simp [Engine.sameReads, opcodeLatch_cmd_dout, opcodeLatch_status, hst, hdout0, hdout1]

/-- Engines that look alike to reads look alike after a CMD write, whose checks read the word and STATUS alone
(60_exceptions.md R253). -/
theorem sameReads_commandEngine {e e' : Engine} (h : Engine.sameReads e e') (cfg : Config) (v : Word) :
    Engine.sameReads (commandEngine cfg v e) (commandEngine cfg v e') := by
  have hst : e.status = e'.status := by
    obtain ⟨-, hst, -⟩ := h
    exact hst
  rw [commandEngine_eq_issueCommand, commandEngine_eq_issueCommand, hst]
  exact sameReads_issueCommand h v _ cfg _

end Sys2Proof.Machine
end

section
/-! SUPPORT. The statements on commands that are issued, rejected and dropped (60_exceptions.md), settled. -/

open Sys2Proof Sys2Proof.Machine

/-- Settles O14: a CMD write is the issue of its word, which drops, rejects or starts the command. -/
theorem cmdWriteFollowsTheIssueRule : Obligations.CmdWriteFollowsTheIssueRule := by
  intro s v rest hev
  refine ⟨_, step_cmdWrite hev, ?_⟩
  rw [commandEngine_eq_issueCommand]
  refine ⟨fun hb => issueCommand_busy hb .., fun hb c hc => ?_, fun hb hc hop => ?_, fun hb hc hop => ?_⟩
  · rw [hc, issueCommand_rejected hb]
    rfl
  · rw [hc, issueCommand_started hb, opcodeLatch_keyset hop]
    rfl
  · rw [hc, issueCommand_started hb, opcodeLatch_block hop]
    rfl

/-- Settles O15: ERR is the code of the word's validation, whose checks compare numbers. -/
theorem validationOrder : Obligations.ValidationOrder := by
  intro s v rest hev hb
  obtain ⟨herr, hbusy⟩ :=
    issueCommand_err_busy hb v (validate Config.fce v s.engine.status.keyValid) Config.fce (opcodeField v)
  rw [← commandEngine_eq_issueCommand] at herr hbusy
  refine ⟨_, step_cmdWrite hev, ?_, ?_⟩
  · rw [herr, hbusy, isNone_iff_resultCode_eq_zero]
  · obtain ⟨hop, hrsvd, hin, hout⟩ := fields_toNat v
    rw [herr, resultCode_validate_toNat, hop, hrsvd, hin, hout]

/-- Settles O16: each reason is a failing check of the instruction, and a failing check rejects it. -/
theorem rejectionIsPrecise : Obligations.RejectionIsPrecise := by
  intro s n m hb rejected
  refine ⟨fun hn => ?_, fun i hi => ⟨fun hn => ?_, fun hn hm => ?_⟩, fun i hi hk => ?_,
    fun v hd => commandWrite_illegal hb hd⟩
  · exact exec_rejected (c := .invalidKeyLength) hb (if_neg fun h => hn (BitVec.eq_of_toNat_eq h))
  · exact exec_rejected hb (instrCheck_of_checkBlockLengths (checkBlockLengths_input hn m) hi _ _)
  · exact exec_rejected hb (instrCheck_of_checkBlockLengths (checkBlockLengths_output hn hm) hi _ _)
  · refine exec_rejected (c := .noKey) hb ?_
    rw [hk]
    obtain rfl | rfl := List.mem_pair.mp hi <;> rfl

/-- Settles O17: the write sets OVERRUN alone, which no controller step reads or writes. -/
theorem writeWhileBusyIsDropped : Obligations.WriteWhileBusyIsDropped := by
  intro s hb
  refine ⟨fun v rest hev => ?_, exec_busy hb, fun n => runController_setOverrun _ n s.engine⟩
  rw [step_cmdWrite hev, commandEngine_busy hb]
  rfl

/-- Settles O18: the issue of an instruction is dropped, rejected, or starts KEYSET or a block command. -/
theorem issuingACommandFrame : Obligations.IssuingACommandFrame := by
  intro i s t h
  rw [exec_eq_next] at h
  cases h
  obtain ⟨hb, he⟩ | ⟨hb, c, he⟩ | ⟨hb, hkeyset, he⟩ | ⟨hb, hblock, _, _, he⟩ := issueOf_cases i s.engine
  · simp [he, hb, setOverrun, Status.dropped]
  · simp [he, hb]
  · simp [he, hb, hkeyset]
  · simp [he, hb, hblock]

/-- Settles O54: a read touches no register, a CMD write while BUSY sets OVERRUN alone, and the other registers a host
can write are DIN and KEY, which a running command has latched. -/
theorem runningCommandIsUndisturbed : Obligations.RunningCommandIsUndisturbed := by
  intro s t a rest hb hev h
  rw [step_of_cons hev] at h
  obtain ha | ⟨r, ha⟩ | ⟨v, ha⟩ | ⟨r, v, ha⟩ := hostAccess_cases a <;> cases (ha _).symm.trans h
  · exact ⟨sameCommand_refl _, rfl, .inl rfl, rfl⟩
  · exact ⟨sameCommand_refl _, rfl, .inl rfl, rfl⟩
  · dsimp only
    rw [commandEngine_busy hb]
    exact ⟨sameCommand_refl _, rfl, .inr rfl, rfl⟩
  · obtain ⟨-, -, hcmd, hst⟩ := writeReg_frame r v s.engine
    exact ⟨sameCommand_writeReg r v _, hcmd, .inl hst, rfl⟩

/-- Settles O55: both machines make the same kind of access, and each kind answers from, and leaves, what reads show. -/
theorem readsRevealNoKeyMaterial : Obligations.ReadsRevealNoKeyMaterial := by
  intro s s' t t' a rest rest' hsame hev hev' h h'
  rw [step_of_cons hev] at h
  rw [step_of_cons hev'] at h'
  obtain ha | ⟨r, ha⟩ | ⟨v, ha⟩ | ⟨r, v, ha⟩ := hostAccess_cases a <;>
    cases (ha _).symm.trans h <;> cases (ha _).symm.trans h'
  · exact ⟨rfl, hsame⟩
  · exact ⟨congrArg Reply.data (readReg_congr hsame r), hsame⟩
  · exact ⟨rfl, sameReads_commandEngine hsame _ v⟩
  · exact ⟨rfl, sameReads_writeReg hsame r v⟩

/-- Settles O13: the write at offset 0x00 is `commandWrite`, which runs the instruction it decodes. -/
theorem stepRunsTheDecodedInstruction : Obligations.StepRunsTheDecodedInstruction := by
  intro s v i rest hev hd
  rw [step_of_cons hev]
  exact (hostWrite_cmd v _).trans (by rw [commandWrite, hd])

end

section
/-! SUPPORT. A reset in the machine (70_reset_and_hazards.md R280), the turns of a controller that has nothing to do
(60_exceptions.md R264), and STATUS as it stands and is read once a command has started (60_exceptions.md R251). -/

namespace Sys2Proof.Machine

open Sys2Proof

/-- A reset in the machine touches the engine alone (70_reset_and_hazards.md R280; log 4). -/
theorem step_reset {s : State} {rest : List Event} (hev : s.events = .reset :: rest) :
    step s = .next { s with engine := Engine.reset, events := rest } :=
  step_of_cons hev

/-- In IDLE any number of controller turns holds the engine (60_exceptions.md R264). -/
theorem runController_idle {e : Engine} (hp : e.phase = .idle) (cfg : Config) (n : Nat) :
    runController cfg n e = some e := by
  induction n with
  | zero => rfl
  | succ n ih => rw [runController, controllerStep_idle hp, Option.bind_some, ih]

/-- With nothing pending and no command executing the machine holds its state (60_exceptions.md R264; log 1). -/
theorem run_idle {s : State} (hev : s.events = []) (hp : s.engine.phase = .idle) (n : Nat) :
    Host.Core.run Sys2Proof.core n s = .next s :=
  run_of_runController hev (runController_idle hp Config.fce n)

/-- A read of STATUS in the machine answers the register (20_memory.md R69). -/
theorem step_statusRead {s : State} {rest : List Event} (hev : s.events = .access (.read32 0x04) :: rest) :
    step s = .next { s with events := rest, reply := .data s.engine.status.word } :=
  (step_of_cons hev).trans (hostRead_offset .status _)

/-- BUSY and DONE after a word that passes validation has been accepted (60_exceptions.md R251): no latch touches
them. -/
theorem commandEngine_busy_done {cfg : Config} {v : Word} {e : Engine} (hb : e.status.busy = false)
    (hv : validate cfg v e.status.keyValid = none) :
    (commandEngine cfg v e).status.busy = true ∧ (commandEngine cfg v e).status.done = false := by
  rw [commandEngine_eq_issueCommand, hv, issueCommand_started hb, opcodeLatch_status]
  split <;> exact ⟨rfl, rfl⟩

end Sys2Proof.Machine
end

section
/-! SUPPORT. The statements on reset and on the hazards of a host program (70_reset_and_hazards.md), settled. -/

open Sys2Proof Sys2Proof.Machine

/-- Settles O3: the reset leaves the engine in IDLE with nothing pending, and every later turn holds it there. -/
theorem resetAbortsTheRunningCommand : Obligations.ResetAbortsTheRunningCommand := by
  intro s n hev
  rw [run_succ (step_reset hev)]
  exact run_idle rfl rfl n

/-- Settles O56: the write starts the command, and the read returns STATUS as that start left it. -/
theorem busyIsVisibleAfterTheCommand : Obligations.BusyIsVisibleAfterTheCommand := by
  intro s v hb hv hev
  obtain ⟨hbusy, hdone⟩ := commandEngine_busy_done hb hv
  obtain ⟨hbit0, hbit1, -⟩ := Status.word_fields (commandEngine Config.fce v s.engine).status
  have hrun := (run_succ (step_cmdWrite hev) 1).trans (run_succ (step_statusRead rfl) 0)
  exact ⟨_, _, hrun, rfl, hbit0.trans hbusy, hbit1.trans hdone⟩

/-- Settles O2: the reset event writes the engine of reset, a closed term, over whatever the engine was. -/
theorem resetEventSetsEveryRegister : Obligations.ResetEventSetsEveryRegister :=
  fun _ _ hev => ⟨Engine.reset, step_reset hev, by decide⟩

end
